-- ==== Sys2Proof/Word.lean ====
section
/-! DEFINITION. The words and numbers of the OJ4180: its 16-bit word, slot numbers and store pages (00 section 5, R76). -/

namespace Sys2Proof

/-- A word is 16 bits (00 section 5). -/
abbrev Word := BitVec 16

/-- A slot, numbered 0 to 7 by its connector (00 section 5). -/
abbrev Slot := Fin 8

/-- A position in the chain order list, 0 the head (R43). -/
abbrev Position := Fin 8

/-- A page of the transfer store, numbered 0 to 63 (R76). -/
abbrev Page := Fin 64

end Sys2Proof
end

