-- ==== Sys2Proof/Syntax.lean ====
section
/-! DEFINITION. The commands of the OJ4180, one constructor per row of spec/opcode_table.json, with each row's operands. -/

namespace Sys2Proof

/-- What can be put to the part: an event at its pins or timers, a host access, or a host command. -/
inductive Instr where
  /-- PIN_RESET (R155): RSTIN# becomes active. -/
  | pinReset
  /-- RSTIN_RELEASE (R141): RSTIN# becomes inactive. -/
  | rstinRelease
  /-- STARTING_END (R142): 256 µs have passed since RSTIN# was released. -/
  | startingEnd
  /-- SEAT_ACTIVE (R3): the slot's SEAT line becomes active. -/
  | seatActive (slot : Slot)
  /-- SEAT_INACTIVE_SETTLING (R5): the SEAT line of a SETTLING slot becomes inactive. -/
  | seatInactiveSettling (slot : Slot)
  /-- REMOVAL (R12): the SEAT line of a slot past SETTLING becomes inactive. -/
  | removal (slot : Slot)
  /-- SETTLE_TIMER_EXPIRY (R6): the slot's settle timer expires. -/
  | settleTimerExpiry (slot : Slot)
  /-- AREQ_ACTIVE (R53): the slot's AREQ line changes to the level given (log 8). -/
  | areqActive (slot : Slot) (active : Bool)
  /-- TREQ_ACTIVE (R53): the slot's TREQ line changes to the level given (log 8). -/
  | treqActive (slot : Slot) (active : Bool)
  /-- REPLY_RELEASE (R25): the reply lines show no reply. -/
  | replyRelease
  /-- REPLY_TAKEN (R27): the reply lines SRP1–SRP0 show a code, with SD15–SD0 and SP1–SP0 as sampled. -/
  | replyTaken (reply : BitVec 2) (data : Word) (parity : BitVec 2)
  /-- RESPONSE_WINDOW_EXPIRY (R26): the response window of the word cycle in progress runs out. -/
  | responseWindowExpiry
  /-- CLEAR_END (R39): the 16 µs CLEAR pulse ends. -/
  | clearEnd
  /-- CONTROL_WRITE (R144): the host writes CONTROL. -/
  | controlWrite (value : Word)
  /-- TIMING_WRITE (R145): the host writes TIMING. -/
  | timingWrite (value : Word)
  /-- STATUS_WRITE (R147): the host writes STATUS. -/
  | statusWrite (value : Word)
  /-- STORE_POINTER_WRITE (R86): the host writes STORE_POINTER. -/
  | storePointerWrite (value : Word)
  /-- STORE_DATA_READ (R87): the host reads STORE_DATA. -/
  | storeDataRead
  /-- STORE_DATA_WRITE (R88): the host writes STORE_DATA. -/
  | storeDataWrite (value : Word)
  /-- SLOT_SELECT_WRITE (R143): the host writes SLOT_SELECT. -/
  | slotSelectWrite (value : Word)
  /-- REGISTER_WRITE (R140): the host writes OPA, OPB, a read-only register or an empty address. -/
  | registerWrite (address : BitVec 5) (value : Word)
  /-- UNKNOWN_COMMAND (R157): the host writes COMMAND with a word that names no command. -/
  | unknownCommand (word : Word)
  /-- SET_MODE (R17): the host writes COMMAND with 0001h. -/
  | setMode
  /-- REIDENTIFY (R18): the host writes COMMAND with 0005h. -/
  | reidentify
  /-- SET_ORDER (R44): the host writes COMMAND with 0002h. -/
  | setOrder
  /-- HOLD (R55): the host writes COMMAND with 0003h. -/
  | hold
  /-- RESUME (R57): the host writes COMMAND with 0004h. -/
  | resume
  /-- TAKE_ATTENTION (R68): the host writes COMMAND with 0008h. -/
  | takeAttention
  /-- RETIRE (R70): the host writes COMMAND with 0009h. -/
  | retire
  /-- OPEN (R94): the host writes COMMAND with 0010h. -/
  | openContext
  /-- ARM (R96): the host writes COMMAND with 0011h. -/
  | arm
  /-- ABORT (R106): the host writes COMMAND with 0012h. -/
  | abort
  /-- CLOSE (R111): the host writes COMMAND with 0013h. -/
  | close
  /-- UNFENCE (R125): the host writes COMMAND with 0006h. -/
  | unfence
  /-- NEXT_EVENT (R135): the host writes COMMAND with 0018h. -/
  | nextEvent
  /-- BUS_RESET (R152): the host writes COMMAND with 003Ch. -/
  | busReset
  deriving DecidableEq, Repr

end Sys2Proof
end

