-- ==== Sys2Proof/Config.lean ====
section
/-! DEFINITION. The constants the manual fixes for every OJ4180. The manual leaves open no value that a command
computes, so there is no free value here (INVENTORY.md, 'What the manual leaves open'). -/

namespace Sys2Proof.Config

/-- The word PART_ID reads (R143, 10 section 10.1). -/
def partId : Word := 0xB182#16

/-- Settle time after pin reset, in ms (R145). -/
def resetSettleTime : Nat := 20

/-- Response window after pin reset, in µs (R26, R145). -/
def resetResponseWindow : Nat := 8

/-- Fence threshold after pin reset (R118, R144). -/
def resetThreshold : Nat := 4

/-- Attention depth after pin reset, and the most the queue holds (R62, R144). -/
def resetDepth : Nat := 8

/-- An error count of 15 stays 15 (R116). -/
def maxErrorCount : Nat := 15

/-- The changes count of a SEAT-class entry stops at 15 (R131). -/
def maxChanges : Nat := 15

/-- Words in a page of the transfer store (R76). -/
def pageWords : Nat := 32

/-- Words in the transfer store, and the largest count OPEN takes (R76, R94). -/
def storeWords : Nat := 2048

/-- Microseconds in a millisecond: the settle timer is loaded in ms and held in µs (R4). -/
def microsPerMilli : Nat := 1000

end Sys2Proof.Config
end

