-- ==== Sys2Proof/Machine/State.lean ====
section
/-! DEFINITION. Everything the manual gives the part to hold, as plain data, and the part in pin reset. -/

namespace Sys2Proof.Machine

/-- Seat states (R1); the codes of 10 section 10.4 in order. -/
inductive SeatState where
  | empty | settling | identifyWait | identifying | online | failed | fenced
  deriving DecidableEq, Repr

/-- Programmed and effective modes (R1). -/
inductive Mode where
  | join | attnOnly | pass
  deriving DecidableEq, Repr

/-- Error kinds (R114). -/
inductive ErrorKind where
  | timeout | parity | cardFault | protocol | badIdent
  deriving DecidableEq, Repr

/-- The operation of a last error (R115). -/
inductive ErrorOperation where
  | identify | acknowledge | burst
  deriving DecidableEq, Repr

/-- A recorded last error (R1, R115). -/
structure LastError where
  kind      : ErrorKind
  operation : ErrorOperation
  index     : Nat
  deriving DecidableEq, Repr

/-- An ident record, present or absent as a whole (R1); its fields as the card's words carry them (10 section 10.6). -/
structure Ident where
  cardKind   : BitVec 8
  service    : BitVec 6
  attention  : Bool
  transfer   : Bool
  burstLimit : BitVec 6
  revision   : BitVec 10
  deriving DecidableEq, Repr

/-- A slot record (R1). The settle timer holds the remaining time in µs, none while stopped. The effective mode is
derived and not stored (R16). -/
structure SlotRecord where
  seat       : SeatState
  timer      : Option Nat
  ident      : Option Ident
  mode       : Mode
  errorCount : Nat
  lastError  : Option LastError
  deriving DecidableEq, Repr

/-- Transfer disciplines (R42). -/
inductive Discipline where
  | fixed | rotating
  deriving DecidableEq, Repr

/-- The turn between attention and transfer (R50). -/
inductive Turn where
  | attention | transfer
  deriving DecidableEq, Repr

/-- Hold states (R42, R55). -/
inductive HoldState where
  | running | holding | held
  deriving DecidableEq, Repr

/-- The chain arbiter's state (R42); its discipline stands in CONTROL. -/
structure Arbiter where
  order  : Vector Slot 8
  origin : Position
  turn   : Turn
  hold   : HoldState
  deriving DecidableEq, Repr

/-- Direction of a transfer (R92). -/
inductive Direction where
  | input | output
  deriving DecidableEq, Repr

/-- What a burst's operation record holds beside the common fields (R23), with the data word the part drives in the
word cycle in progress of a BURST_OUT (R25, R33). -/
structure Burst where
  direction : Direction
  size      : Nat
  moved     : Nat
  boundary  : Bool
  driven    : Option Word
  deriving DecidableEq, Repr

/-- The kind of the operation in flight (R23). An IDENTIFY in word cycle 1 keeps the ident word of word cycle 0 (R30). -/
inductive OperationKind where
  | identify (identWord : Option Word)
  | acknowledge
  | burst (b : Burst)
  deriving DecidableEq, Repr

/-- A card's reply (R27). -/
inductive Reply where
  | take | stop | fault
  deriving DecidableEq, Repr

/-- What the part takes in phase 4: the reply, the data lines as sampled, and whether their parity is good (R25, R28). -/
structure Answer where
  reply : Reply
  data  : Word
  good  : Bool
  deriving DecidableEq, Repr

/-- The phases of a word cycle (R25): 1 and 2, the strobe not yet driven; 3, the strobe out; 4, the reply taken; 5, the
release, the strobe inactive again. -/
inductive WordPhase where
  | begun | strobed | answered (answer : Answer) | released (answer : Answer)
  deriving DecidableEq, Repr

/-- The operation record (R23), with the phase of its word cycle (R25). -/
structure Operation where
  kind   : OperationKind
  slot   : Slot
  index  : Nat
  window : Nat
  phase  : WordPhase
  deriving DecidableEq, Repr

/-- An attention entry (R60). -/
structure AttentionEntry where
  slot    : Slot
  service : BitVec 6
  vector  : Word
  deriving DecidableEq, Repr

/-- Halt reasons (R92). -/
inductive HaltReason where
  | aborted | unseated | fenced | busReset
  deriving DecidableEq, Repr

/-- The states of an open context (R92), with the halt reason where it is present. -/
inductive Phase where
  | loading | armed | done | halted (reason : HaltReason)
  deriving DecidableEq, Repr

/-- The fields of a context that are present in every state but CLOSED (R92). -/
structure Transfer where
  phase     : Phase
  direction : Direction
  count     : Nat
  moved     : Nat
  tag       : BitVec 8
  pages     : List Page
  deriving DecidableEq, Repr

/-- A transfer context (R92); CLOSED is an absent transfer. -/
structure Context where
  transfer     : Option Transfer
  abortPending : Bool
  deriving DecidableEq, Repr

/-- Kind and detail of a SEAT-class change (R126); `fenced none` is a fence with detail THRESHOLD. -/
inductive SeatChange where
  | seated | unseated | identFailed (kind : ErrorKind) | fenced (kind : Option ErrorKind)
  deriving DecidableEq, Repr

/-- Kind and detail of a TRANSFER-class entry (R126). -/
inductive TransferEnd where
  | done | halted (reason : HaltReason)
  deriving DecidableEq, Repr

/-- An event entry of either class, with the fields present in it (R126). -/
inductive Event where
  | seat (slot : Slot) (change : SeatChange) (changes : Nat)
  | transfer (slot : Slot) (ending : TransferEnd) (tag : BitVec 8) (direction : Direction) (words : Nat)
  deriving DecidableEq, Repr

/-- Result codes (R149). -/
inductive Result where
  | ok | badOperand | wrongState | noSpace | eventPending | stale | alreadyDone | overtaken | notReady
  deriving DecidableEq, Repr

/-- The record of the command in execution, with its latched operands (R148). -/
structure CommandRecord where
  code : Word
  opa  : Word
  opb  : Word
  deriving DecidableEq, Repr

/-- The command unit (R148, R151); `executing` is none while IDLE. -/
structure CommandUnit where
  opa        : Word
  opb        : Word
  code       : Word
  executing  : Option CommandRecord
  result     : Result
  resultData : Word
  deriving DecidableEq, Repr

/-- The five fields of CONTROL as taken (R144). -/
structure Control where
  attentionEnable : Bool
  eventEnable     : Bool
  discipline      : Discipline
  threshold       : Nat
  depth           : Nat
  deriving DecidableEq, Repr

/-- The two fields of TIMING as taken, in ms and in µs (R145). -/
structure Timing where
  settleTime     : Nat
  responseWindow : Nat
  deriving DecidableEq, Repr

/-- STORE_POINTER (R86). -/
structure StorePointer where
  slot   : Slot
  offset : BitVec 12
  deriving DecidableEq, Repr

/-- The levels of the input lines, true for active (00 section 5, R20, R22). -/
structure Lines where
  rstin : Bool
  seat  : Vector Bool 8
  areq  : Vector Bool 8
  treq  : Vector Bool 8
  deriving DecidableEq, Repr

/-- The transfer store's words (R76): (store address, word) pairs in canonical form, see `Memory.wf`. -/
abbrev Memory := List (Nat × Word)

/-- Addresses rise strictly and lie in the store, and no listed word is the 0 an unlisted address reads as (R76, R77). -/
abbrev Memory.wf (m : Memory) : Prop :=
  m.Pairwise (fun a b => a.1 < b.1) ∧ ∀ c ∈ m, c.1 < Config.storeWords ∧ c.2 ≠ 0#16

/-- The OJ4180. `readData`, `releaseHeld` and `pending` are the model's own: the word the host took from the last STORE_DATA
read, which HD15–HD0 carry for that access alone (log 3); whether the commands that follow a reply find its word cycle
still in its release (R36, log 12), which is set from outside like the queue; and the commands that wait, first in, first
out. -/
structure State where
  lines       : Lines
  readData    : Option Word
  starting    : Bool
  overrun     : Bool
  windowFault : Bool
  pointer     : StorePointer
  slotSelect  : Slot
  control     : Control
  timing      : Timing
  cmd         : CommandUnit
  slots       : Vector SlotRecord 8
  arb         : Arbiter
  clear       : Bool
  op          : Option Operation
  attention   : List AttentionEntry
  inService   : Vector Bool 8
  contexts    : Vector Context 8
  store       : Memory
  freePages   : List Page
  events      : List Event
  releaseHeld : Bool
  pending     : List Instr
  deriving DecidableEq, Repr

/-- Why a step stops the part: never. The part has no fault; what goes wrong at it is shown in state (INVENTORY.md,
'Faults'), so the type has no constructor. -/
inductive Fault where
  deriving DecidableEq, Repr

/-- Why a command has no meaning. -/
inductive Refusal where
  /-- A row of the opcode table that the model does not give its meaning; raised by an arm of `exec` alone, safe. -/
  | notModelled (mnemonic : String)
  deriving DecidableEq, Repr

/-- A slot record at pin reset (R2). -/
def SlotRecord.reset : SlotRecord :=
  { seat := .empty, timer := none, ident := none, mode := .join, errorCount := 0, lastError := none }

/-- A context at pin reset (R92). -/
def Context.reset : Context := { transfer := none, abortPending := false }

/-- The arbiter at pin reset (R42). -/
def Arbiter.reset : Arbiter :=
  { order := #v[0, 1, 2, 3, 4, 5, 6, 7], origin := 0, turn := .attention, hold := .running }

/-- CONTROL at pin reset (R144). -/
def Control.reset : Control :=
  { attentionEnable := false, eventEnable := false, discipline := .fixed,
    threshold := Config.resetThreshold, depth := Config.resetDepth }

/-- TIMING at pin reset (R145). -/
def Timing.reset : Timing :=
  { settleTime := Config.resetSettleTime, responseWindow := Config.resetResponseWindow }

/-- The command unit at pin reset (R155). -/
def CommandUnit.reset : CommandUnit :=
  { opa := 0, opb := 0, code := 0, executing := none, result := .ok, resultData := 0 }

/-- Every page, ascending: the free page list at pin reset (R78). -/
def allPages : List Page := List.ofFn id

/-- The part while RSTIN# is held active (R141, R155), with no card seated and no request (log 1) and the transfer
store clear (log 7). -/
def State.reset : State where
  lines := { rstin := true, seat := Vector.replicate 8 false, areq := Vector.replicate 8 false,
             treq := Vector.replicate 8 false }
  readData := none
  starting := false
  overrun := false
  windowFault := false
  pointer := { slot := 0, offset := 0 }
  slotSelect := 0
  control := Control.reset
  timing := Timing.reset
  cmd := CommandUnit.reset
  slots := Vector.replicate 8 SlotRecord.reset
  arb := Arbiter.reset
  clear := true
  op := none
  attention := []
  inService := Vector.replicate 8 false
  contexts := Vector.replicate 8 Context.reset
  store := []
  freePages := allPages
  events := []
  releaseHeld := false
  pending := []

end Sys2Proof.Machine
end

