-- ==== Sys2Proof/Machine/Operands.lean ====
section
/-! DEFINITION. Operand and field forms: the fields of host words and of the cards' words, the codes of the manual's
tables and the words they make up (chapter 10). -/

namespace Sys2Proof.Machine

/-- The fourteen commands (R157). -/
inductive Command where
  | setMode | setOrder | hold | resume | reidentify | unfence | takeAttention | retire
  | openContext | arm | abort | close | nextEvent | busReset
  deriving DecidableEq, Repr

/-- The code of a command (R157). -/
def Command.code : Command → Word
  | .setMode => 0x0001#16
  | .setOrder => 0x0002#16
  | .hold => 0x0003#16
  | .resume => 0x0004#16
  | .reidentify => 0x0005#16
  | .unfence => 0x0006#16
  | .takeAttention => 0x0008#16
  | .retire => 0x0009#16
  | .openContext => 0x0010#16
  | .arm => 0x0011#16
  | .abort => 0x0012#16
  | .close => 0x0013#16
  | .nextEvent => 0x0018#16
  | .busReset => 0x003C#16

/-- The command a COMMAND word names, judged as a whole word (R157). -/
def commandOf (w : Word) : Option Command :=
  match w.toNat with
  | 0x0001 => some .setMode
  | 0x0002 => some .setOrder
  | 0x0003 => some .hold
  | 0x0004 => some .resume
  | 0x0005 => some .reidentify
  | 0x0006 => some .unfence
  | 0x0008 => some .takeAttention
  | 0x0009 => some .retire
  | 0x0010 => some .openContext
  | 0x0011 => some .arm
  | 0x0012 => some .abort
  | 0x0013 => some .close
  | 0x0018 => some .nextEvent
  | 0x003C => some .busReset
  | _ => none

/-- A 3-bit field holds a slot number, 0 to 7. -/
def slotOfBits (b : BitVec 3) : Slot := ⟨b.toNat, b.isLt⟩

/-- A slot number as a 3-bit field. -/
def bitsOfSlot (n : Slot) : BitVec 3 := BitVec.ofNat 3 n.val

/-- The slot field of OPA, bits 2–0 (R157). -/
def operandSlot (opa : Word) : Slot := slotOfBits (opa.extractLsb' 0 3)

/-- The mode field of SET MODE, OPA bits 5–4; code 3 names no mode (R157). -/
def operandMode (opa : Word) : Option Mode :=
  match (opa.extractLsb' 4 2).toNat with
  | 0 => some .join
  | 1 => some .attnOnly
  | 2 => some .pass
  | _ => none

/-- The direction field of OPEN, OPA bit 3 (R157). -/
def operandDirection (opa : Word) : Direction := if opa.getLsbD 3 then .output else .input

/-- The tag field of OPEN, OPA bits 15–8 (R157). -/
def operandTag (opa : Word) : BitVec 8 := opa.extractLsb' 8 8

/-- The changes field of NEXT EVENT, OPA bits 11–8 (R157). -/
def operandChanges (opa : Word) : Nat := (opa.extractLsb' 8 4).toNat

/-- The eight slot numbers of SET ORDER, OPA for positions 0 to 3 and OPB for positions 4 to 7 (R158). -/
def operandOrder (opa opb : Word) : Vector Slot 8 :=
  #v[slotOfBits (opa.extractLsb' 0 3), slotOfBits (opa.extractLsb' 4 3),
     slotOfBits (opa.extractLsb' 8 3), slotOfBits (opa.extractLsb' 12 3),
     slotOfBits (opb.extractLsb' 0 3), slotOfBits (opb.extractLsb' 4 3),
     slotOfBits (opb.extractLsb' 8 3), slotOfBits (opb.extractLsb' 12 3)]

/-- CONTROL as taken from the word written (R144, 10 section 10.2). -/
def controlOfWord (w : Word) : Control :=
  { attentionEnable := w.getLsbD 15
    eventEnable := w.getLsbD 14
    discipline := if w.getLsbD 13 then .rotating else .fixed
    threshold := max 1 (w.extractLsb' 8 4).toNat
    depth := min 8 (max 1 (w.extractLsb' 0 4).toNat) }

/-- TIMING as taken from the word written (R145, 10 section 10.2). -/
def timingOfWord (w : Word) : Timing :=
  { settleTime := max 1 (w.extractLsb' 8 8).toNat
    responseWindow := max 1 (w.extractLsb' 0 6).toNat }

/-- STORE_POINTER as taken from the word written (R86, 10 section 10.2). -/
def pointerOfWord (w : Word) : StorePointer :=
  { slot := slotOfBits (w.extractLsb' 12 3), offset := w.extractLsb' 0 12 }

/-- The ident record in a card's ident word and capability word (10 section 10.6). -/
def identOfWords (identWord capability : Word) : Ident :=
  { cardKind := identWord.extractLsb' 8 8
    attention := identWord.getLsbD 7
    transfer := identWord.getLsbD 6
    service := identWord.extractLsb' 0 6
    burstLimit := capability.extractLsb' 10 6
    revision := capability.extractLsb' 0 10 }

/-- The word index of the first check of R9 that fails, none for a valid ident. -/
def Ident.failedCheck (i : Ident) : Option Nat :=
  if i.cardKind = 0#8 ∨ i.cardKind = 255#8 then some 0
  else if i.burstLimit = 0#6 ∨ 32 < i.burstLimit.toNat then some 1
  else none

/-- The reply on SRP1–SRP0; both inactive is no reply (R161). -/
def replyOfLines (lines : BitVec 2) : Option Reply :=
  match lines.toNat with
  | 1 => some .take
  | 2 => some .stop
  | 3 => some .fault
  | _ => none

/-- Whether a byte holds an odd number of ones. -/
def oddOnes (b : BitVec 8) : Bool :=
  [0, 1, 2, 3, 4, 5, 6, 7].foldl (fun acc i => acc ^^ b.getLsbD i) false

/-- The parity lines SP1–SP0 the part drives with a word: each byte and its bit hold an odd number of ones (R28). -/
def parityOf (w : Word) : BitVec 2 :=
  BitVec.ofBool (!oddOnes (w.extractLsb' 8 8)) ++ BitVec.ofBool (!oddOnes (w.extractLsb' 0 8))

/-- Both bytes of a sampled word pass the parity check (R28). -/
def parityGood (w : Word) (parity : BitVec 2) : Bool :=
  (oddOnes (w.extractLsb' 8 8) ^^ parity.getLsbD 1) && (oddOnes (w.extractLsb' 0 8) ^^ parity.getLsbD 0)

/-! Codes of 10 section 10.4 and the words of the views. -/

/-- Seat state code. -/
def SeatState.code : SeatState → BitVec 3
  | .empty => 0 | .settling => 1 | .identifyWait => 2 | .identifying => 3
  | .online => 4 | .failed => 5 | .fenced => 6

/-- Mode code. -/
def Mode.code : Mode → BitVec 2
  | .join => 0 | .attnOnly => 1 | .pass => 2

/-- Error kind code. -/
def ErrorKind.code : ErrorKind → BitVec 3
  | .timeout => 1 | .parity => 2 | .cardFault => 3 | .protocol => 4 | .badIdent => 5

/-- Code of the operation of a last error. -/
def ErrorOperation.code : ErrorOperation → BitVec 2
  | .identify => 1 | .acknowledge => 2 | .burst => 3

/-- Hold state code (10 section 10.2). -/
def HoldState.code : HoldState → BitVec 2
  | .running => 0 | .holding => 1 | .held => 2

/-- Direction code. -/
def Direction.code : Direction → BitVec 1
  | .input => 0 | .output => 1

/-- Halt reason code. -/
def HaltReason.code : HaltReason → BitVec 3
  | .aborted => 1 | .unseated => 2 | .fenced => 3 | .busReset => 4

/-- Context state code of an open context; CLOSED has code 0. -/
def Phase.code : Phase → BitVec 3
  | .loading => 1 | .armed => 2 | .done => 3 | .halted _ => 4

/-- Halt reason field of an open context, 0 while absent. -/
def Phase.reasonCode : Phase → BitVec 3
  | .halted r => r.code
  | .loading => 0 | .armed => 0 | .done => 0

/-- Result code. -/
def Result.code : Result → BitVec 4
  | .ok => 0 | .badOperand => 1 | .wrongState => 2 | .noSpace => 3 | .eventPending => 4
  | .stale => 5 | .alreadyDone => 6 | .overtaken => 7 | .notReady => 8

/-- Kind code of a SEAT-class change (10 section 10.5). -/
def SeatChange.code : SeatChange → BitVec 3
  | .seated => 1 | .unseated => 2 | .identFailed _ => 3 | .fenced _ => 4

/-- Detail field of a SEAT-class change: the error kind, THRESHOLD (6), or absent (0). -/
def SeatChange.detailCode : SeatChange → BitVec 3
  | .seated => 0 | .unseated => 0
  | .identFailed k => k.code
  | .fenced (some k) => k.code
  | .fenced none => 6

/-- Kind code of a TRANSFER-class entry (10 section 10.5). -/
def TransferEnd.code : TransferEnd → BitVec 3
  | .done => 5 | .halted _ => 6

/-- Detail field of a TRANSFER-class entry: the halt reason, or absent (0). -/
def TransferEnd.detailCode : TransferEnd → BitVec 3
  | .done => 0 | .halted r => r.code

/-- Operation kind on SK1–SK0 (10 section 10.7). -/
def OperationKind.code : OperationKind → BitVec 2
  | .identify _ => 0
  | .acknowledge => 1
  | .burst b => match b.direction with
    | .input => 2
    | .output => 3

/-- The ident word fields of a record, in the layout of the ident word (10 section 10.6). -/
def Ident.identWord (i : Ident) : Word :=
  i.cardKind ++ BitVec.ofBool i.attention ++ BitVec.ofBool i.transfer ++ i.service

/-- The capability word fields of a record, in the layout of the capability word (10 section 10.6). -/
def Ident.capabilityWord (i : Ident) : Word := i.burstLimit ++ i.revision

/-- Word 3 of SLOT_VIEW for a present last error (R159). -/
def LastError.viewWord (e : LastError) : Word :=
  1#1 ++ e.kind.code ++ e.operation.code ++ 0#5 ++ BitVec.ofNat 5 e.index

/-- CONTROL as read (R144, 10 section 10.2). -/
def Control.word (c : Control) : Word :=
  BitVec.ofBool c.attentionEnable ++ BitVec.ofBool c.eventEnable ++ BitVec.ofBool (c.discipline = .rotating)
    ++ 0#1 ++ BitVec.ofNat 4 c.threshold ++ 0#4 ++ BitVec.ofNat 4 c.depth

/-- TIMING as read (R145, 10 section 10.2). -/
def Timing.word (t : Timing) : Word :=
  BitVec.ofNat 8 t.settleTime ++ 0#2 ++ BitVec.ofNat 6 t.responseWindow

/-- STORE_POINTER as read (R86, 10 section 10.2). -/
def StorePointer.word (p : StorePointer) : Word := 0#1 ++ bitsOfSlot p.slot ++ p.offset

/-- Four consecutive positions of the chain order list (R158). -/
def orderWord (a b c d : Slot) : Word :=
  0#1 ++ bitsOfSlot d ++ 0#1 ++ bitsOfSlot c ++ 0#1 ++ bitsOfSlot b ++ 0#1 ++ bitsOfSlot a

/-- The three words of EVENT_HEAD for a head entry in a queue of the length given (R134, R160). -/
def Event.headWords (e : Event) (length : Nat) : Word × Word × Word :=
  match e with
  | .seat n change k =>
    (1#1 ++ 0#1 ++ change.code ++ bitsOfSlot n ++ 0#4 ++ BitVec.ofNat 4 k,
     BitVec.ofNat 4 length ++ 0#1 ++ change.detailCode ++ 0#8, 0#16)
  | .transfer n ending tag direction words =>
    (1#1 ++ 1#1 ++ ending.code ++ bitsOfSlot n ++ 0#4 ++ 0#4,
     BitVec.ofNat 4 length ++ direction.code ++ ending.detailCode ++ tag, 0#4 ++ BitVec.ofNat 12 words)

end Sys2Proof.Machine
end

