-- ==== Sys2Proof/Machine/Ops.lean ====
section
/-! DEFINITION. The named operations over the store, the slot records, the contexts, the event queue and the command
unit that every command's meaning is made of. -/

namespace Sys2Proof.Machine

/-! Transfer store. -/

/-- The store word at an address; an unlisted word is 0 (R76, R77). -/
def Memory.read : Memory → Nat → Word
  | [], _ => 0#16
  | (a, w) :: rest, k => if a = k then w else Memory.read rest k

/-- Writes one store word and keeps the canonical form (R76). -/
def Memory.write (k : Nat) (v : Word) : Memory → Memory
  | [] => if v = 0#16 then [] else [(k, v)]
  | (a, w) :: rest =>
    if k < a then (if v = 0#16 then (a, w) :: rest else (k, v) :: (a, w) :: rest)
    else if k = a then (if v = 0#16 then rest else (k, v) :: rest)
    else (a, w) :: Memory.write k v rest

/-- The store address of word `w` of a page (R76). -/
def storeAddress (p : Page) (w : Nat) : Nat := p.val * Config.pageWords + w

/-- The store address of a context offset, none where the offset is not valid (R84). -/
def Transfer.address (x : Transfer) (offset : Nat) : Option Nat :=
  (x.pages[offset / Config.pageWords]?).map fun p => storeAddress p (offset % Config.pageWords)

/-- Pages for a count: ceil(count / 32) (R80). -/
def pagesFor (count : Nat) : Nat := (count + (Config.pageWords - 1)) / Config.pageWords

/-! Slot records and contexts. -/

/-- The slots in ascending order. -/
def allSlots : List Slot := [0, 1, 2, 3, 4, 5, 6, 7]

/-- The record of a slot (R1). -/
def State.slot (s : State) (n : Slot) : SlotRecord := s.slots[n]

/-- Replaces the record of a slot. -/
def State.setSlot (s : State) (n : Slot) (r : SlotRecord) : State := { s with slots := s.slots.set n r }

/-- The transfer context of a slot (R92). -/
def State.context (s : State) (n : Slot) : Context := s.contexts[n]

/-- Replaces the context of a slot. -/
def State.setContext (s : State) (n : Slot) (c : Context) : State := { s with contexts := s.contexts.set n c }

/-- Replaces the open transfer of a slot's context. -/
def State.setTransfer (s : State) (n : Slot) (x : Transfer) : State :=
  s.setContext n { s.context n with transfer := some x }

/-! Event queue. -/

/-- The slot of an event entry. -/
def Event.slot : Event → Slot
  | .seat n _ _ => n
  | .transfer n _ _ _ _ => n

/-- The changes count of an event entry; 0 in the TRANSFER class (R126). -/
def Event.changes : Event → Nat
  | .seat _ _ k => k
  | .transfer _ _ _ _ _ => 0

/-- Whether an entry is the SEAT-class entry of a slot. -/
def Event.isSeatOf (n : Slot) : Event → Bool
  | .seat m _ _ => m == n
  | .transfer _ _ _ _ _ => false

/-- Whether an entry is the TRANSFER-class entry of a slot. -/
def Event.isTransferOf (n : Slot) : Event → Bool
  | .seat _ _ _ => false
  | .transfer m _ _ _ _ => m == n

/-- The event queue after a SEAT-class change: the slot's entry is updated in its place, kind and detail replaced and
changes raised, stopping at 15; where there is none a new entry with changes 1 joins at the tail (R129, R130, R131). -/
def insertSeat (n : Slot) (change : SeatChange) : List Event → List Event
  | [] => [.seat n change 1]
  | .seat m old k :: rest =>
    if m = n then .seat n change (min Config.maxChanges (k + 1)) :: rest
    else .seat m old k :: insertSeat n change rest
  | .transfer m ending tag direction words :: rest => .transfer m ending tag direction words :: insertSeat n change rest

/-- Takes a SEAT-class change (R127). -/
def State.reportSeat (s : State) (n : Slot) (change : SeatChange) : State :=
  { s with events := insertSeat n change s.events }

/-- Takes a TRANSFER-class change: a new entry at the tail (R129, R102). -/
def State.reportTransfer (s : State) (n : Slot) (ending : TransferEnd) (x : Transfer) (words : Nat) : State :=
  { s with events := s.events ++ [.transfer n ending x.tag x.direction words] }

/-! Command unit. -/

/-- Completes the command with its result and datum; the command state becomes IDLE (R149). -/
def State.complete (s : State) (result : Result) (datum : Word) : State :=
  { s with cmd := { s.cmd with executing := none, result := result, resultData := datum } }

/-- Leaves the command just taken EXECUTING, with its operands latched (R148, R149). -/
def State.execute (s : State) : State :=
  { s with cmd := { s.cmd with executing := some ⟨s.cmd.code, s.cmd.opa, s.cmd.opb⟩ } }

/-! Transfer engine. -/

/-- Takes an ARMED context to HALTED and inserts its HALTED event; any other context is left as it is
(R102 to R106). -/
def State.halt (s : State) (n : Slot) (reason : HaltReason) : State :=
  match (s.context n).transfer with
  | some x =>
    if x.phase = .armed then
      (s.setTransfer n { x with phase := .halted reason }).reportTransfer n (.halted reason) x x.moved
    else s
  | none => s

/-- Settles an ABORT that waits on the burst that has ended, and completes it (R108). The context has already been
taken to DONE or HALTED where the burst end did so. -/
def State.settleAbort (s : State) (n : Slot) : State :=
  let c := s.context n
  match c.abortPending, c.transfer with
  | true, some x =>
    let s' := s.setContext n { c with abortPending := false }
    match x.phase with
    | .done => s'.complete .alreadyDone (BitVec.ofNat 16 x.count)
    | .halted _ => s'.complete .overtaken (BitVec.ofNat 16 x.moved)
    | .armed => (s'.halt n .aborted).complete .ok (BitVec.ofNat 16 x.moved)
    | .loading => s'
  | _, _ => s

/-- The word a BURST_OUT sends next: the store word at offset moved (R33, R85). -/
def State.nextWord (s : State) (n : Slot) : Option Word :=
  match (s.context n).transfer with
  | some x => (x.address x.moved).map s.store.read
  | none => none

/-- Sets the slot's error count to 0 (R117). -/
def State.clearErrors (s : State) (n : Slot) : State := s.setSlot n { s.slot n with errorCount := 0 }

/-- Writes a received word at offset moved of the slot's context (R34). -/
def State.storeReceived (s : State) (x : Transfer) (data : Word) : State :=
  match x.address x.moved with
  | some a => { s with store := s.store.write a data }
  | none => s

/-- Applies one word moved in a burst to the ARMED context of its slot, DONE at its last word (R99, R100). -/
def State.moveWord (s : State) (n : Slot) (direction : Direction) (data : Word) : State :=
  match (s.context n).transfer with
  | some x =>
    if x.phase = .armed then
      let s' := match direction with
        | .input => s.storeReceived x data
        | .output => s
      if x.moved + 1 = x.count then
        ((s'.setTransfer n { x with moved := x.moved + 1, phase := .done }).reportTransfer n .done x x.count).clearErrors n
      else s'.setTransfer n { x with moved := x.moved + 1 }
    else s
  | none => s

/-! Seat monitor. -/

/-- Records an ACKNOWLEDGE or burst error as the last error and raises the count (R115, R116). Such an error reaches the
seat monitor only for a slot that is ONLINE or FENCED (R116, log 20). -/
def State.countError (s : State) (n : Slot) (e : LastError) : State :=
  if (s.slot n).seat = .online ∨ (s.slot n).seat = .fenced then
    s.setSlot n { s.slot n with
      errorCount := min Config.maxErrorCount ((s.slot n).errorCount + 1), lastError := some e }
  else s

/-- Compares the slot's count with the threshold and fences an ONLINE slot at or above it, halting its ARMED context
first; the detail is the error's kind, none for THRESHOLD (R118, R120, R121, R122). -/
def State.judge (s : State) (n : Slot) (kind : Option ErrorKind) : State :=
  if (s.slot n).seat = .online ∧ s.control.threshold ≤ (s.slot n).errorCount then
    ((s.setSlot n { s.slot n with seat := .fenced }).halt n .fenced).reportSeat n (.fenced kind)
  else s

/-- Takes a slot to SETTLING: count 0, last error absent, settle timer loaded (R3, R4). -/
def State.enterSettling (s : State) (n : Slot) : State :=
  s.setSlot n { s.slot n with
    seat := .settling, timer := some (s.timing.settleTime * Config.microsPerMilli),
    errorCount := 0, lastError := none }

/-- Takes a slot from IDENTIFYING to FAILED with an identify error (R11). -/
def State.failIdentify (s : State) (n : Slot) (kind : ErrorKind) (index : Nat) : State :=
  (s.setSlot n { s.slot n with
    seat := .failed, ident := none, lastError := some ⟨kind, .identify, index⟩ }).reportSeat n (.identFailed kind)

/-! Attention queue. -/

/-- Appends the entry of a delivered vector, with the service code of the slot's ident (R64). -/
def State.appendVector (s : State) (n : Slot) (vector : Word) : State :=
  { s with attention := s.attention ++
      [{ slot := n, service := ((s.slot n).ident.map Ident.service).getD 0, vector := vector }] }

/-- Purges a slot from the attention queue and the in-service set (R72). -/
def State.purge (s : State) (n : Slot) : State :=
  { s with attention := s.attention.filter (fun e => e.slot ≠ n), inService := s.inService.set n false }

/-! Time. -/

/-- Time passes at a slot's settle timer: it counts down, and stands in its last microsecond from there until its
expiry is taken (R4, log 4). -/
def SlotRecord.elapse (micros : Nat) (r : SlotRecord) : SlotRecord :=
  { r with timer := r.timer.map fun t => max 1 (t - micros) }

/-- Time passes: every settle timer that runs counts down (R4, log 4). -/
def State.elapse (s : State) (micros : Nat) : State :=
  { s with slots := Vector.ofFn fun n : Slot => (s.slot n).elapse micros }

/-- The slot is SETTLING and its settle timer is in its last microsecond (R4). -/
def SlotRecord.expiring (r : SlotRecord) : Bool :=
  r.seat = .settling && (match r.timer with
    | some t => t ≤ 1
    | none => false)

end Sys2Proof.Machine
end

