-- ==== Sys2Proof/Machine/Flags.lean ====
section
/-! DEFINITION. Conditions and levels the part derives from its state: effective mode, the claims on the bus, the bus
being free, the causes of HREQ, and the output lines of the service bus. -/

namespace Sys2Proof.Machine

/-- The effective mode of a slot record (R16). -/
def SlotRecord.effectiveMode (r : SlotRecord) : Mode := if r.seat = .online then r.mode else .pass

/-- The slot is an identify candidate (R45). -/
def State.identifyCandidate (s : State) (n : Slot) : Bool := (s.slot n).seat = .identifyWait

/-- The slot's card is attention-capable by its ident record. -/
def SlotRecord.attentionCapable (r : SlotRecord) : Bool := (r.ident.map Ident.attention).getD false

/-- The slot's card is transfer-capable by its ident record. -/
def SlotRecord.transferCapable (r : SlotRecord) : Bool := (r.ident.map Ident.transfer).getD false

/-- The slot has an entry in the attention queue (R61). -/
def State.queued (s : State) (n : Slot) : Bool := s.attention.any fun e => e.slot == n

/-- The slot's context is ARMED. -/
def State.armed (s : State) (n : Slot) : Bool :=
  match (s.context n).transfer with
  | some x => x.phase = .armed
  | none => false

/-- The slot is attention-eligible: the six conditions of R46. -/
def State.attentionEligible (s : State) (n : Slot) : Bool :=
  (s.slot n).seat = .online
    && ((s.slot n).effectiveMode = .join || (s.slot n).effectiveMode = .attnOnly)
    && (s.slot n).attentionCapable
    && s.lines.areq[n]
    && !(s.queued n) && !(s.inService[n])
    && s.attention.length < s.control.depth

/-- The slot is transfer-eligible: the five conditions of R47. -/
def State.transferEligible (s : State) (n : Slot) : Bool :=
  (s.slot n).seat = .online
    && (s.slot n).effectiveMode = .join
    && (s.slot n).transferCapable
    && s.lines.treq[n]
    && s.armed n

/-- The bus is free (R39). -/
def State.busFree (s : State) : Bool := s.op.isNone && !s.clear

/-- The host window takes accesses: RSTIN# is inactive and STARTING is over (R141, R142). -/
def State.ready (s : State) : Bool := !s.lines.rstin && !s.starting

/-- The arbiter may choose: the bus is free, the hold state RUNNING, STARTING over (R53). -/
def State.mayChoose (s : State) : Bool := s.ready && s.busFree && s.arb.hold = .running

/-- A burst of the slot is in flight, by the operation record (R98). -/
def State.burstInFlight (s : State) (n : Slot) : Bool :=
  match s.op with
  | some { kind := .burst _, slot := m, .. } => m == n
  | _ => false

/-- The attention cause of HREQ (R75). -/
def State.attentionCause (s : State) : Bool := s.control.attentionEnable && !s.attention.isEmpty

/-- The event cause of HREQ (R137). -/
def State.eventCause (s : State) : Bool := s.control.eventEnable && !s.events.isEmpty

/-- The level of HREQ (R154). -/
def State.hreq (s : State) : Bool := s.attentionCause || s.eventCause

/-- The SEL line of a slot: active for the slot of the operation record (R22, R23). -/
def State.sel (s : State) (n : Slot) : Bool :=
  match s.op with
  | some o => o.slot == n
  | none => false

/-- The answer that a word cycle has taken: none before phase 4 (R25). -/
def WordPhase.answer : WordPhase → Option Answer
  | .begun => none
  | .strobed => none
  | .answered a => some a
  | .released a => some a

/-- The strobe, driven from phase 3 until the release (R22, R25). -/
def State.strobe (s : State) : Bool :=
  match s.op with
  | some o =>
    match o.phase with
    | .begun => false
    | .strobed => true
    | .answered _ => true
    | .released _ => false
  | none => false

/-- The kind lines SK1–SK0, which carry a meaning while an operation is in flight (R22, R161). -/
def State.kindLines (s : State) : Option (BitVec 2) := s.op.map fun o => o.kind.code

/-- The data word the part drives on SD15–SD0, none while it leaves the lines undriven (R22, R25). -/
def State.dataLines (s : State) : Option Word :=
  match s.op with
  | some { kind := .burst b, .. } => b.driven
  | _ => none

/-- The parity lines SP1–SP0 as the part drives them, with the data word (R28). -/
def State.parityLines (s : State) : Option (BitVec 2) := s.dataLines.map parityOf

/-- Some slot holds a claim after an event that it did not hold before it (R53). -/
def newClaim (before after : State) : Bool :=
  allSlots.any fun n =>
    (after.identifyCandidate n && !before.identifyCandidate n)
      || (after.attentionEligible n && !before.attentionEligible n)
      || (after.transferEligible n && !before.transferEligible n)

end Sys2Proof.Machine
end

