-- ==== Sys2Proof/Machine/Arbiter.lean ====
section
/-! DEFINITION. The chain arbiter and the start of an operation: scans, the choice, the events at which it is made, and
what the end of an operation does to the arbiter (chapter 3). -/

namespace Sys2Proof.Machine

/-- The position at which a slot stands in the chain order list (R43). -/
def State.position (s : State) (n : Slot) : Nat := s.arb.order.toList.idxOf n

/-- The slots in scan order from a position, every position once (R48). -/
def State.scanOrder (s : State) (start : Position) : List Slot :=
  s.arb.order.toList.drop start.val ++ s.arb.order.toList.take start.val

/-- The first slot in scan order that holds a claim (R48). -/
def State.scan (s : State) (start : Position) (claim : Slot → Bool) : Option Slot :=
  (s.scanOrder start).find? claim

/-- Where the transfer scan starts (R48). -/
def State.transferStart (s : State) : Position :=
  match s.control.discipline with
  | .fixed => 0
  | .rotating => s.arb.origin

/-- What the arbiter can choose (R51). -/
inductive Choice where
  | identify (slot : Slot) | acknowledge (slot : Slot) | burst (slot : Slot)
  deriving DecidableEq, Repr

/-- The operation and slot a choice selects, none where no slot holds a claim (R51). -/
def State.choice (s : State) : Option Choice :=
  match s.scan 0 s.identifyCandidate with
  | some n => some (.identify n)
  | none =>
    match s.scan 0 s.attentionEligible, s.scan s.transferStart s.transferEligible with
    | some a, some t =>
      match s.arb.turn with
      | .attention => some (.acknowledge a)
      | .transfer => some (.burst t)
    | some a, none => some (.acknowledge a)
    | none, some t => some (.burst t)
    | none, none => none

/-- What the part drives in a word cycle that begins: the store word wanted in a BURST_OUT (R25, R33). -/
def State.drive (s : State) (n : Slot) : OperationKind → OperationKind
  | .burst b =>
    .burst { b with driven := match b.direction with
                              | .input => none
                              | .output => s.nextWord n }
  | .identify w => .identify w
  | .acknowledge => .acknowledge

/-- Begins a word cycle of an operation: the response window is loaded from TIMING, the strobe is not yet driven
(R25, R26). -/
def State.beginWord (s : State) (o : Operation) : State :=
  { s with op := some { o with
      kind := s.drive o.slot o.kind, window := s.timing.responseWindow, phase := .begun } }

/-- Starts an operation at word index 0 (R24). -/
def State.startOperation (s : State) (kind : OperationKind) (n : Slot) : State :=
  s.beginWord { kind := kind, slot := n, index := 0, window := s.timing.responseWindow, phase := .begun }

/-- The size of a burst: the lower of the card's burst limit and the context's remaining words (R32). -/
def State.burstSize (s : State) (n : Slot) (x : Transfer) : Nat :=
  min (((s.slot n).ident.map fun i => i.burstLimit.toNat).getD 0) (x.count - x.moved)

/-- Takes a choice: the bus sequencer starts the operation (R24, R52), and an IDENTIFY takes its slot to IDENTIFYING
(R7). -/
def State.start (s : State) : Choice → State
  | .identify n =>
    (s.setSlot n { s.slot n with seat := .identifying }).startOperation (.identify none) n
  | .acknowledge n => s.startOperation .acknowledge n
  | .burst n =>
    match (s.context n).transfer with
    | some x =>
      s.startOperation
        (.burst { direction := x.direction, size := s.burstSize n x, moved := 0, boundary := false, driven := none }) n
    | none => s

/-- Makes a choice where the arbiter may choose (R51, R53). -/
def State.choose (s : State) : State :=
  if s.mayChoose then
    match s.choice with
    | some c => s.start c
    | none => s
  else s

/-- The event from `before` to `after` is one at which the arbiter chooses: the bus became free, or a slot came to hold
a claim (R53). -/
def choiceDue (before after : State) : Bool := (!before.busFree && after.busFree) || newClaim before after

/-- The state after an event's own effects, with the choice the event calls for (R53). -/
def react (before after : State) : State := if choiceDue before after then after.choose else after

/-- The position that follows the slot's, 7 followed by 0 (R49). -/
def State.nextOrigin (s : State) (n : Slot) : Position := Fin.ofNat 8 (s.position n + 1)

/-- What the end of an operation does to turn and origin (R49, R50). -/
def State.updateTurn (s : State) (kind : OperationKind) (n : Slot) : State :=
  match kind with
  | .identify _ => s
  | .acknowledge => { s with arb := { s.arb with turn := .transfer } }
  | .burst _ => { s with arb := { s.arb with turn := .attention, origin := s.nextOrigin n } }

/-- In HOLDING, the end of the operation takes the hold state to HELD and completes the HOLD (R56). -/
def State.completeHold (s : State) : State :=
  if s.arb.hold = .holding then
    { s with arb := { s.arb with hold := .held } }.complete .ok 0
  else s

/-- The operation end as the arbiter takes it (R40, R56). -/
def State.operationEnd (s : State) (kind : OperationKind) (n : Slot) : State := (s.updateTurn kind n).completeHold

end Sys2Proof.Machine
end

