-- ==== Sys2Proof/Machine/Sequencer.lean ====
section
/-! DEFINITION. The bus sequencer: how a word cycle and an operation end, what each outcome does in the block it is
delivered to, and the cut (chapter 2, R40). -/

namespace Sys2Proof.Machine

/-- The outcome of an IDENTIFY that was not cut (R8, R30). -/
inductive IdentifyOutcome where
  | good (identWord capability : Word) | error (kind : ErrorKind) (index : Nat)
  deriving DecidableEq, Repr

/-- The outcome of an ACKNOWLEDGE that was not cut (R31). -/
inductive AcknowledgeOutcome where
  | vector (word : Word) | withdrawn | error (kind : ErrorKind)
  deriving DecidableEq, Repr

/-- The end cause of a burst that was not cut (R35). -/
inductive EndCause where
  | sizeReached | cardStop | error (kind : ErrorKind) (index : Nat) | boundary
  deriving DecidableEq, Repr

/-- The seat monitor acts on an identify outcome while the slot is IDENTIFYING (R8 to R11). -/
def State.identifyOutcome (s : State) (n : Slot) (outcome : IdentifyOutcome) : State :=
  if (s.slot n).seat = .identifying then
    match outcome with
    | .good w0 w1 =>
      let ident := identOfWords w0 w1
      match ident.failedCheck with
      | none =>
        (s.setSlot n { s.slot n with seat := .online, ident := some ident, errorCount := 0 }).reportSeat n .seated
      | some index => s.failIdentify n .badIdent index
    | .error kind index => s.failIdentify n kind index
  else s

/-- The end of an IDENTIFY (R29, R30). -/
def State.endIdentify (s : State) (o : Operation) (outcome : IdentifyOutcome) : State :=
  ({ s with op := none }.identifyOutcome o.slot outcome).operationEnd o.kind o.slot

/-- The outcome of an ACKNOWLEDGE in the attention queue or the seat monitor (R31, R64, R65, R116, R120). -/
def State.acknowledgeOutcome (s : State) (n : Slot) (outcome : AcknowledgeOutcome) : State :=
  match outcome with
  | .vector w => s.appendVector n w
  | .withdrawn => s
  | .error kind => (s.countError n ⟨kind, .acknowledge, 0⟩).judge n (some kind)

/-- The end of an ACKNOWLEDGE (R29, R31). -/
def State.endAcknowledge (s : State) (o : Operation) (outcome : AcknowledgeOutcome) : State :=
  ({ s with op := none }.acknowledgeOutcome o.slot outcome).operationEnd o.kind o.slot

/-- The seat monitor at a burst end: an error is recorded and counted, then the count is compared with the threshold
(R115, R116, R118, R120, R122). -/
def State.burstOutcome (s : State) (n : Slot) (cause : EndCause) : State :=
  match cause with
  | .error kind index => (s.countError n ⟨kind, .burst, index⟩).judge n (some kind)
  | .sizeReached => s.judge n none
  | .cardStop => s.judge n none
  | .boundary => s.judge n none

/-- The end of a burst that was not cut: the seat monitor, then a waiting ABORT, then the arbiter (R29, R101, R108). -/
def State.endBurst (s : State) (o : Operation) (cause : EndCause) : State :=
  (({ s with op := none }.burstOutcome o.slot cause).settleAbort o.slot).operationEnd o.kind o.slot

/-- Cuts the operation in flight at once: its word is abandoned, no outcome is delivered to the seat monitor or the
attention queue, and the arbiter takes its end (R38, R49, R50, R56). -/
def State.cut (s : State) : State :=
  match s.op with
  | some o => { s with op := none }.operationEnd o.kind o.slot
  | none => s

/-- Asks for the burst in flight of a slot to end at the next word boundary; before the strobe it ends at once with
BOUNDARY, and from phase 3 on the word cycle finishes first, its release included (R36). -/
def State.requestBoundary (s : State) (n : Slot) : State :=
  match s.op with
  | some { kind := .burst b, slot := m, index := i, window := w, phase := p } =>
    if m = n ∧ b.boundary = false then
      let o : Operation := { kind := .burst { b with boundary := true }, slot := m, index := i, window := w, phase := p }
      match p with
      | .begun => s.endBurst o .boundary
      | .strobed => { s with op := some o }
      | .answered _ => { s with op := some o }
      | .released _ => { s with op := some o }
    else s
  | _ => s

/-! The reply taken, phase 4 (R25, R27). -/

/-- The answer moves a word of a burst: TAKE, with good parity in a BURST_IN (R28, R33, R34). -/
def Answer.moves (a : Answer) (direction : Direction) : Bool :=
  a.reply = .take && (direction = .output || a.good)

/-- Phase 4: the reply is taken. A burst word it moves is applied at this moment (R33, R34); everything else it brings
waits for the end of the word cycle. -/
def State.takeReply (s : State) (o : Operation) (a : Answer) : State :=
  match o.kind with
  | .identify _ => { s with op := some { o with phase := .answered a } }
  | .acknowledge => { s with op := some { o with phase := .answered a } }
  | .burst b =>
    if a.moves b.direction then
      { s.moveWord o.slot b.direction a.data with
        op := some { o with kind := .burst { b with moved := b.moved + 1 }, phase := .answered a } }
    else { s with op := some { o with phase := .answered a } }

/-! The release, phase 5, and the end of the word cycle (R25). -/

/-- Stops driving the data lines, which a BURST_OUT alone drives (R25). -/
def OperationKind.undriven : OperationKind → OperationKind
  | .identify w => .identify w
  | .acknowledge => .acknowledge
  | .burst b => .burst { b with driven := none }

/-- Phase 5: the strobe goes inactive and the data lines are driven no more (R25). -/
def State.releaseWord (s : State) (o : Operation) (a : Answer) : State :=
  { s with op := some { o with kind := o.kind.undriven, phase := .released a } }

/-- The end of an answered IDENTIFY word cycle (R27, R28, R30). -/
def State.endIdentifyWord (s : State) (o : Operation) (first : Option Word) (a : Answer) : State :=
  match a.reply with
  | .take =>
    if a.good then
      match first with
      | none => s.beginWord { o with kind := .identify (some a.data), index := o.index + 1 }
      | some w0 => s.endIdentify o (.good w0 a.data)
    else s.endIdentify o (.error .parity o.index)
  | .stop => s.endIdentify o (.error .protocol o.index)
  | .fault => s.endIdentify o (.error .cardFault o.index)

/-- The end of an answered ACKNOWLEDGE word cycle (R27, R28, R31). -/
def State.endAcknowledgeWord (s : State) (o : Operation) (a : Answer) : State :=
  match a.reply with
  | .take => if a.good then s.endAcknowledge o (.vector a.data) else s.endAcknowledge o (.error .parity)
  | .stop => s.endAcknowledge o .withdrawn
  | .fault => s.endAcknowledge o (.error .cardFault)

/-- The end of a burst's word cycle whose word was moved: the burst ends with SIZE_REACHED or BOUNDARY, or its next word
cycle begins (R35, R36). -/
def State.afterWord (s : State) (o : Operation) (b : Burst) : State :=
  if b.size ≤ b.moved then s.endBurst o .sizeReached
  else if b.boundary then s.endBurst o .boundary
  else s.beginWord { o with index := o.index + 1 }

/-- The end of an answered burst word cycle (R27, R28, R35). -/
def State.endBurstWord (s : State) (o : Operation) (b : Burst) (a : Answer) : State :=
  match a.reply with
  | .take => if a.moves b.direction then s.afterWord o b else s.endBurst o (.error .parity o.index)
  | .stop => s.endBurst o .cardStop
  | .fault => s.endBurst o (.error .cardFault o.index)

/-- The release is over: an answered word cycle ends, and the operation goes on to its next word cycle or ends (R25, R27, R29). -/
def State.endWord (s : State) (o : Operation) (a : Answer) : State :=
  match o.kind with
  | .identify first => s.endIdentifyWord o first a
  | .acknowledge => s.endAcknowledgeWord o a
  | .burst b => s.endBurstWord o b a

/-- The word cycle in progress comes to its end where its reply has been taken, whatever is left of phases 4 and 5 (R25). -/
def State.finishWord (s : State) : State :=
  match s.op with
  | some o =>
    match o.phase.answer with
    | some a => s.endWord o a
    | none => s
  | none => s

/-- The response window of the word cycle in progress has run out: TIMEOUT (R26, R27). -/
def State.timeout (s : State) (o : Operation) : State :=
  match o.kind with
  | .identify _ => s.endIdentify o (.error .timeout o.index)
  | .acknowledge => s.endAcknowledge o (.error .timeout)
  | .burst _ => s.endBurst o (.error .timeout o.index)

end Sys2Proof.Machine
end

