-- ==== Sys2Proof/Machine/Seating.lean ====
section
/-! DEFINITION. What the seat monitor does at changes of the SEAT lines, at the settle timer's expiry and at a threshold
write, and what pin reset and BUS RESET do to every block (chapters 1 and 7, R152). -/

namespace Sys2Proof.Machine

/-- A SEAT line becomes active: an EMPTY slot goes to SETTLING, unless the part is in pin reset or STARTING (R2, R3). -/
def State.seatActive (s : State) (n : Slot) : State :=
  let s' := { s with lines := { s.lines with seat := s.lines.seat.set n true } }
  if s.ready ∧ (s.slot n).seat = .empty then s'.enterSettling n else s'

/-- The levels after a SEAT line becomes inactive. The presence pin breaks first, so the request lines keep their levels
until they change in their turn (01 section 1.3, R20, log 9). -/
def Lines.unseat (l : Lines) (n : Slot) : Lines := { l with seat := l.seat.set n false }

/-- Cuts the operation in flight if it is with the slot. A reply already taken settles its word first: the word cycle ends
by it, and the cut finds what is left of the operation, if anything is (R13 item 1, R38). That a release still in progress ends
before the cut is the model's choice (log 12). -/
def State.cutSlot (s : State) (n : Slot) : State :=
  match s.op with
  | some o => if o.slot = n then s.finishWord.cut else s
  | none => s

/-- A removal and its hand-offs: the cut, the purge, UNSEATED, the halt, a waiting ABORT (R12, R13, R72, R103). -/
def State.remove (s : State) (n : Slot) : State :=
  let s' := s.cutSlot n
  ((((s'.setSlot n { s'.slot n with seat := .empty, timer := none, ident := none }).purge n).reportSeat n
    .unseated).halt n .unseated).settleAbort n

/-- A SEAT line becomes inactive, taken by the seat state at that moment: SETTLING goes back to EMPTY (R5), a slot past
SETTLING is removed (R12), an EMPTY slot stays (R15, log 10). One choice is made, after all hand-offs of a removal: R13
gives its items 1 and 2 no order, and that the choice at the bus freed by the cut waits for the purge is the model's choice
(log 25). -/
def State.seatInactive (s : State) (n : Slot) : State :=
  let s' := { s with lines := s.lines.unseat n }
  if s.ready then
    match (s.slot n).seat with
    | .empty => s'
    | .settling => s'.setSlot n { s.slot n with seat := .empty, timer := none }
    | .identifyWait => react s (s'.remove n)
    | .identifying => react s (s'.remove n)
    | .online => react s (s'.remove n)
    | .failed => react s (s'.remove n)
    | .fenced => react s (s'.remove n)
  else s'

/-- A settle timer expires: SETTLING to IDENTIFY_WAIT, an event at which the arbiter chooses (R6). -/
def State.expire (s : State) (n : Slot) : State :=
  react s (s.setSlot n { s.slot n with seat := .identifyWait, timer := none })

/-- A settle timer runs out: the time that remained on it passes, so that the full loaded time has passed, and it expires
(R4, R6, log 4). A timer that does not run cannot expire (R5). -/
def State.settleExpiry (s : State) (n : Slot) : State :=
  if (s.slot n).seat = .settling then (s.elapse ((s.slot n).timer.getD 0)).expire n else s

/-- One microsecond in which no command comes: every settle timer counts down, and those whose time has passed with it
expire, in ascending order of slot (R4, R6, log 4). -/
def State.microsecond (s : State) : State :=
  (allSlots.filter fun n => (s.slot n).expiring).foldl State.expire (s.elapse 1)

/-- The part where no command comes: phase 4 of a word cycle gives way to phase 5 and phase 5 to the end of the word cycle,
neither of which takes a microsecond of its own, and otherwise a microsecond passes (R25, log 12, log 4). -/
def State.idle (s : State) : State :=
  match s.op with
  | some o =>
    match o.phase with
    | .begun => s.microsecond
    | .strobed => s.microsecond
    | .answered a => s.releaseWord o a
    | .released _ => react s s.finishWord
  | none => s.microsecond

/-- A threshold write at one slot: an ONLINE slot at or above the threshold is fenced at once, or its burst in flight
is asked to end at the next word boundary (R121). -/
def State.applyThreshold (s : State) (n : Slot) : State :=
  if (s.slot n).seat = .online ∧ s.control.threshold ≤ (s.slot n).errorCount then
    if s.burstInFlight n then s.requestBoundary n else s.judge n none
  else s

/-- The seat monitor's part of a CONTROL write, in ascending order of slot (R121, log 14). -/
def State.applyThresholds (s : State) : State := allSlots.foldl State.applyThreshold s

/-- A slot record at BUS RESET (R19). -/
def SlotRecord.busReset (r : SlotRecord) : SlotRecord :=
  match r.seat with
  | .empty => r
  | .settling => r
  | .identifyWait => { r with errorCount := 0 }
  | .identifying => { r with seat := .identifyWait, errorCount := 0 }
  | .online => { r with seat := .identifyWait, errorCount := 0 }
  | .failed => { r with seat := .identifyWait, errorCount := 0 }
  | .fenced => { r with seat := .identifyWait, errorCount := 0 }

/-- Every ARMED context halted with BUS_RESET, in ascending order of slot (R105). -/
def State.haltAll (s : State) : State := allSlots.foldl (fun s n => s.halt n .busReset) s

/-- What a BUS RESET does at the moment it is taken: the cut, CLEAR, then each block's part (R152). A reply already taken
settles its word before the cut (R38), and its word cycle ends with it, which is the model's choice (log 12). -/
def State.busReset (s : State) : State :=
  let s1 := s.finishWord.cut
  let s2 := s1.haltAll
  { s2 with
    clear := true
    slots := Vector.ofFn fun n : Slot => (s2.slot n).busReset
    arb := { s2.arb with origin := 0, turn := .attention }
    attention := []
    inService := Vector.replicate 8 false }

/-- Every piece of state at its pin reset value (R141, R155). The input lines are the cards' and keep their levels, the
store keeps its words until the clear of STARTING (R77), and what comes from outside, the commands that wait and whether
releases are held, stays. -/
def State.pinReset (s : State) : State :=
  { State.reset with
    lines := { s.lines with rstin := true }, store := s.store, releaseHeld := s.releaseHeld, pending := s.pending }

/-- RSTIN# is released: STARTING begins, and CLEAR goes on for its last 16 µs (R37, R141). -/
def State.release (s : State) : State :=
  if s.lines.rstin then { s with lines := { s.lines with rstin := false }, starting := true, clear := true } else s

/-- STARTING ends: the store is clear, the slots with SEAT active go to SETTLING, and the arbiter chooses. The CLEAR
pulse fell within STARTING, so it is over (R2, R39, R77, R142, log 6). -/
def State.endStarting (s : State) : State :=
  if s.starting ∧ s.lines.rstin = false then
    let s' := { s with starting := false, clear := false, store := [] }
    (allSlots.foldl (fun s n => if s.lines.seat[n] then s.enterSettling n else s) s').choose
  else s

/-- The CLEAR pulse ends: a BUS RESET in execution completes, and the bus becomes free (R37, R39, R153). While RSTIN# is
active CLEAR is held. -/
def State.endClear (s : State) : State :=
  if s.clear ∧ s.lines.rstin = false then
    let s' := { s with clear := false }
    let s'' := match s.cmd.executing with
      | some r => if r.code = Command.busReset.code then s'.complete .ok 0 else s'
      | none => s'
    react s s''
  else s

end Sys2Proof.Machine
end

