-- ==== Sys2Proof/Machine/Commands.lean ====
section
/-! DEFINITION. The command unit and what each of the fourteen commands does when it is taken; a body reads the operands
latched from OPA and OPB (R148 to R151 and each owner's chapter). -/

namespace Sys2Proof.Machine

/-- SET MODE (R17). -/
def State.runSetMode (s : State) : State :=
  let n := operandSlot s.cmd.opa
  match operandMode s.cmd.opa with
  | some m => react s ((s.setSlot n { s.slot n with mode := m }).complete .ok 0)
  | none => s.complete .badOperand 0

/-- REIDENTIFY (R18). -/
def State.runReidentify (s : State) : State :=
  let n := operandSlot s.cmd.opa
  if (s.slot n).seat = .failed then
    react s ((s.setSlot n { s.slot n with seat := .identifyWait }).complete .ok 0)
  else s.complete .wrongState 0

/-- UNFENCE (R125). -/
def State.runUnfence (s : State) : State :=
  let n := operandSlot s.cmd.opa
  if (s.slot n).seat = .fenced then
    react s ((s.setSlot n { s.slot n with seat := .identifyWait, errorCount := 0 }).complete .ok 0)
  else s.complete .wrongState 0

/-- SET ORDER (R44): the list is replaced if no slot number appears twice. -/
def State.runSetOrder (s : State) : State :=
  let order := operandOrder s.cmd.opa s.cmd.opb
  if order.toList.Nodup then { s with arb := { s.arb with order := order } }.complete .ok 0
  else s.complete .badOperand 0

/-- HOLD (R55). -/
def State.runHold (s : State) : State :=
  match s.arb.hold with
  | .running =>
    match s.op with
    | none => { s with arb := { s.arb with hold := .held } }.complete .ok 0
    | some _ => { s with arb := { s.arb with hold := .holding } }.execute
  | .holding => s.complete .wrongState 0
  | .held => s.complete .wrongState 0

/-- RESUME (R57): in HELD the hold state becomes RUNNING and the arbiter chooses. -/
def State.runResume (s : State) : State :=
  match s.arb.hold with
  | .held => ({ s with arb := { s.arb with hold := .running } }.complete .ok 0).choose
  | .running => s.complete .wrongState 0
  | .holding => s.complete .wrongState 0

/-- TAKE ATTENTION (R68). -/
def State.runTakeAttention (s : State) : State :=
  let n := operandSlot s.cmd.opa
  match s.attention with
  | [] => s.complete .wrongState 0
  | e :: rest =>
    if e.slot = n then
      react s ({ s with attention := rest, inService := s.inService.set n true }.complete .ok e.vector)
    else s.complete .stale 0

/-- RETIRE (R70, R71). -/
def State.runRetire (s : State) : State :=
  let n := operandSlot s.cmd.opa
  if s.inService[n] then
    react s ({ s with inService := s.inService.set n false }.complete .ok 0)
  else s.complete .wrongState 0

/-- OPEN (R94), with the store's part (R80, R81). -/
def State.runOpen (s : State) : State :=
  let n := operandSlot s.cmd.opa
  let count := s.cmd.opb.toNat
  let need := pagesFor count
  match (s.context n).transfer with
  | some _ => s.complete .wrongState 0
  | none =>
    if count = 0 ∨ Config.storeWords < count then s.complete .badOperand 0
    else
      match s.freePages with
      | [] => s.complete .noSpace 0
      | first :: _ =>
        if s.freePages.length < need then s.complete .noSpace 0
        else
          let x : Transfer :=
            { phase := .loading, direction := operandDirection s.cmd.opa, count := count, moved := 0,
              tag := operandTag s.cmd.opa, pages := s.freePages.take need }
          ({ s with freePages := s.freePages.drop need }.setContext n
            { transfer := some x, abortPending := false }).complete .ok (BitVec.ofNat 16 first.val)

/-- ARM (R96). -/
def State.runArm (s : State) : State :=
  let n := operandSlot s.cmd.opa
  match (s.context n).transfer with
  | some x =>
    if x.phase = .loading then
      if (s.slot n).seat = .online ∧ (s.slot n).transferCapable then
        react s ((s.setTransfer n { x with phase := .armed }).complete .ok 0)
      else s.complete .notReady 0
    else s.complete .wrongState 0
  | none => s.complete .wrongState 0

/-- ABORT (R106, R107). -/
def State.runAbort (s : State) : State :=
  let n := operandSlot s.cmd.opa
  match (s.context n).transfer with
  | some x =>
    if x.phase = .armed then
      if s.burstInFlight n then
        react s ((s.execute.setContext n { s.context n with abortPending := true }).requestBoundary n)
      else react s ((s.halt n .aborted).complete .ok (BitVec.ofNat 16 x.moved))
    else s.complete .wrongState 0
  | none => s.complete .wrongState 0

/-- CLOSE returns the context's pages to the tail of the free page list (R82, R111). -/
def State.closeContext (s : State) (n : Slot) (x : Transfer) : State :=
  { s with freePages := s.freePages ++ x.pages }.setContext n { s.context n with transfer := none }

/-- CLOSE (R111). -/
def State.runClose (s : State) : State :=
  let n := operandSlot s.cmd.opa
  match (s.context n).transfer with
  | some x =>
    match x.phase with
    | .armed => s.complete .wrongState 0
    | .loading => (s.closeContext n x).complete .ok 0
    | .done =>
      if s.events.any (Event.isTransferOf n) then s.complete .eventPending 0
      else (s.closeContext n x).complete .ok 0
    | .halted _ =>
      if s.events.any (Event.isTransferOf n) then s.complete .eventPending 0
      else (s.closeContext n x).complete .ok 0
  | none => s.complete .wrongState 0

/-- NEXT EVENT (R135). -/
def State.runNextEvent (s : State) : State :=
  match s.events with
  | [] => s.complete .wrongState 0
  | e :: rest =>
    if e.slot = operandSlot s.cmd.opa ∧ e.changes = operandChanges s.cmd.opa then
      { s with events := rest }.complete .ok 0
    else s.complete .stale 0

/-- BUS RESET (R152): it stays EXECUTING until CLEAR ends (R153). -/
def State.runBusReset (s : State) : State := s.busReset.execute

/-- Hands a command to its owner (R148). -/
def State.runCommand (s : State) : Command → State
  | .setMode => s.runSetMode
  | .setOrder => s.runSetOrder
  | .hold => s.runHold
  | .resume => s.runResume
  | .reidentify => s.runReidentify
  | .unfence => s.runUnfence
  | .takeAttention => s.runTakeAttention
  | .retire => s.runRetire
  | .openContext => s.runOpen
  | .arm => s.runArm
  | .abort => s.runAbort
  | .close => s.runClose
  | .nextEvent => s.runNextEvent
  | .busReset => s.runBusReset

/-- The command unit as it takes a COMMAND word: the word is read back, RESULT_DATA is 0 (R148, R151). -/
def State.takeWord (s : State) (w : Word) : State := { s with cmd := { s.cmd with code := w, resultData := 0 } }

/-- A write of COMMAND: no access while RSTIN# is active, dropped with COMMAND_OVERRUN during STARTING or while
EXECUTING, otherwise taken; a word that names no command completes BAD_OPERAND (R141, R148, R150, R157). -/
def State.writeCommand (s : State) (w : Word) : State :=
  if s.lines.rstin then s
  else if s.starting ∨ s.cmd.executing.isSome then { s with overrun := true }
  else
    match commandOf w with
    | some c => (s.takeWord w).runCommand c
    | none => (s.takeWord w).complete .badOperand 0

end Sys2Proof.Machine
end

