-- ==== Sys2Proof/Machine/Window.lean ====
section
/-! DEFINITION. The host window: the content of every register, the store window, and writes by address
(chapters 5, 9 and 10). -/

namespace Sys2Proof.Machine

/-! What the host reads. -/

/-- STATUS (R146, 10 section 10.2). -/
def State.statusWord (s : State) : Word :=
  BitVec.ofBool s.starting ++ BitVec.ofBool s.cmd.executing.isSome ++ s.arb.hold.code ++ BitVec.ofBool s.clear
    ++ BitVec.ofBool (!s.attention.isEmpty) ++ BitVec.ofBool (!s.events.isEmpty) ++ BitVec.ofBool s.hreq ++ 0#6
    ++ BitVec.ofBool s.windowFault ++ BitVec.ofBool s.overrun

/-- The two words of ATTN_HEAD (R66). -/
def State.attentionHead (s : State) : Word × Word :=
  match s.attention with
  | [] => (0#16, 0#16)
  | e :: _ =>
    (1#1 ++ bitsOfSlot e.slot ++ BitVec.ofNat 4 s.attention.length ++ 0#2 ++ e.service, e.vector)

/-- IN_SERVICE (R67). -/
def State.inServiceWord (s : State) : Word :=
  0#8 ++ BitVec.ofBool s.inService[7] ++ BitVec.ofBool s.inService[6] ++ BitVec.ofBool s.inService[5]
    ++ BitVec.ofBool s.inService[4] ++ BitVec.ofBool s.inService[3] ++ BitVec.ofBool s.inService[2]
    ++ BitVec.ofBool s.inService[1] ++ BitVec.ofBool s.inService[0]

/-- The three words of EVENT_HEAD (R134, R160). -/
def State.eventHead (s : State) : Word × Word × Word :=
  match s.events with
  | [] => (0#16, 0#16, 0#16)
  | e :: _ => e.headWords s.events.length

/-- SLOT_VIEW word 0 (R20). -/
def State.slotView0 (s : State) (n : Slot) : Word :=
  (s.slot n).seat.code ++ (s.slot n).mode.code ++ (s.slot n).effectiveMode.code ++ BitVec.ofBool s.lines.seat[n]
    ++ BitVec.ofBool s.lines.areq[n] ++ BitVec.ofBool s.lines.treq[n] ++ BitVec.ofBool (s.slot n).ident.isSome ++ 0#1
    ++ BitVec.ofNat 4 (s.slot n).errorCount

/-- The settle timer's remaining time in whole ms, rounded up (R4, R20). -/
def remainingMillis (micros : Nat) : Nat := (micros + (Config.microsPerMilli - 1)) / Config.microsPerMilli

/-- SLOT_VIEW word 3: the last error, else the settle timer of a SETTLING slot, else 0 (R159). -/
def State.slotView3 (s : State) (n : Slot) : Word :=
  match (s.slot n).lastError with
  | some e => e.viewWord
  | none =>
    if (s.slot n).seat = .settling then 0#8 ++ BitVec.ofNat 8 (remainingMillis ((s.slot n).timer.getD 0)) else 0#16

/-- The three words of CONTEXT_VIEW (R113); absent fields read 0. -/
def State.contextView (s : State) (n : Slot) : Word × Word × Word :=
  match (s.context n).transfer with
  | some x =>
    (x.phase.code ++ x.direction.code ++ x.phase.reasonCode ++ BitVec.ofBool (s.context n).abortPending ++ x.tag,
     0#4 ++ BitVec.ofNat 12 x.count, 0#4 ++ BitVec.ofNat 12 x.moved)
  | none => (0#7 ++ BitVec.ofBool (s.context n).abortPending ++ 0#8, 0#16, 0#16)

/-- The state of a context admits a host access through the store window: reads in LOADING, DONE and HALTED (R87),
writes in LOADING (R88). -/
def Phase.admits (write : Bool) : Phase → Bool
  | .loading => true
  | .armed => false
  | .done => !write
  | .halted _ => !write

/-- The store address a STORE_DATA access reaches, none where it is refused (R87, R88, R89). -/
def State.windowAddress (s : State) (write : Bool) : Option Nat :=
  match (s.context s.pointer.slot).transfer with
  | some x => if x.phase.admits write then x.address s.pointer.offset.toNat else none
  | none => none

/-- The word a STORE_DATA read returns (R87, R89). -/
def State.storeDataWord (s : State) : Word :=
  match s.windowAddress false with
  | some a => s.store.read a
  | none => 0#16

/-- A register's content after STARTING, by window address (10 section 10.1). -/
def State.registerWord (s : State) (address : BitVec 5) : Word :=
  match address.toNat with
  | 0x00 => s.statusWord
  | 0x01 => s.control.word
  | 0x02 => s.timing.word
  | 0x03 => s.cmd.code
  | 0x04 => s.cmd.opa
  | 0x05 => s.cmd.opb
  | 0x06 => 0#12 ++ s.cmd.result.code
  | 0x07 => s.cmd.resultData
  | 0x08 => s.attentionHead.1
  | 0x09 => s.attentionHead.2
  | 0x0A => s.inServiceWord
  | 0x0B => s.eventHead.1
  | 0x0C => s.eventHead.2.1
  | 0x0D => s.eventHead.2.2
  | 0x0E => s.pointer.word
  | 0x0F => s.storeDataWord
  | 0x10 => BitVec.ofNat 16 s.freePages.length
  | 0x11 => 0#13 ++ bitsOfSlot s.slotSelect
  | 0x12 => s.slotView0 s.slotSelect
  | 0x13 => ((s.slot s.slotSelect).ident.map Ident.identWord).getD 0
  | 0x14 => ((s.slot s.slotSelect).ident.map Ident.capabilityWord).getD 0
  | 0x15 => s.slotView3 s.slotSelect
  | 0x16 => (s.contextView s.slotSelect).1
  | 0x17 => (s.contextView s.slotSelect).2.1
  | 0x18 => (s.contextView s.slotSelect).2.2
  | 0x19 => orderWord s.arb.order[0] s.arb.order[1] s.arb.order[2] s.arb.order[3]
  | 0x1A => orderWord s.arb.order[4] s.arb.order[5] s.arb.order[6] s.arb.order[7]
  | 0x1B => Config.partId
  | _ => 0#16

/-- What the host reads at a window address: 0 while RSTIN# is active, and at every address but STATUS during STARTING
(R141). No read but that of STORE_DATA changes the part (R140); that one is the command STORE_DATA_READ. -/
def State.readRegister (s : State) (address : BitVec 5) : Word :=
  if s.lines.rstin then 0#16
  else if s.starting then (if address = 0x00#5 then s.statusWord else 0#16)
  else s.registerWord address

/-- What the host reads with these SEAT, AREQ and TREQ levels present at the read, where the part has yet to act on their
change (R20): the slot and everything else are still as they were, so a slot may show ONLINE with SEAT inactive. -/
def State.readRegisterMeeting (s : State) (levels : Lines) (address : BitVec 5) : Word :=
  { s with lines := { levels with rstin := s.lines.rstin } }.readRegister address

/-- The host's access lines, true for active (R139). -/
structure HostLines where
  hcs : Bool
  hrd : Bool
  hwr : Bool
  deriving DecidableEq, Repr

/-- What the access lines call for: a read, a write, or neither, which is also what HRD# and HWR# together are (R139). -/
inductive HostAccess where
  | read | write | neither
  deriving DecidableEq, Repr

/-- The access the lines call for (R139). DESIGN CHOICE (log 26): the levels alone decide, so that a strobe which stays active with
HCS# after the other of a joint assertion has gone inactive calls for its access from then on; the rule does not say whether a
read begins there and drives HD15–HD0. -/
def HostLines.access (l : HostLines) : HostAccess :=
  if l.hcs && l.hrd && !l.hwr then .read
  else if l.hcs && l.hwr && !l.hrd then .write
  else .neither

/-- HD15–HD0 as the part drives them: a read drives the word taken at its assertion, whichever register it reads, until
HRD# or HCS# goes inactive; otherwise the lines are not driven (R139). DESIGN CHOICE (log 26): of HWR# asserted while a read
already taken still has HRD# and HCS# active the rule says nothing, since it speaks only of both strobes asserted together;
the model judges by the levels alone and stops driving the lines. -/
def HostLines.hd (l : HostLines) (taken : Word) : Option Word :=
  match l.access with
  | .read => some taken
  | .write => none
  | .neither => none

/-! What the host writes. Every write but COMMAND is dropped while RSTIN# is active and during STARTING (R141). -/

/-- A write of STATUS clears the sticky flags where its word holds ones (R147). -/
def State.writeStatus (s : State) (w : Word) : State :=
  if s.ready then
    { s with overrun := s.overrun && !w.getLsbD 0, windowFault := s.windowFault && !w.getLsbD 1 }
  else s

/-- A write of CONTROL sets its five fields together, then fences and chooses as they call for (R144, R121, R63). -/
def State.writeControl (s : State) (w : Word) : State :=
  if s.ready then react s { s with control := controlOfWord w }.applyThresholds else s

/-- A write of TIMING (R145). -/
def State.writeTiming (s : State) (w : Word) : State :=
  if s.ready then { s with timing := timingOfWord w } else s

/-- A write of OPA (R151). -/
def State.writeOpa (s : State) (w : Word) : State :=
  if s.ready then { s with cmd := { s.cmd with opa := w } } else s

/-- A write of OPB (R151). -/
def State.writeOpb (s : State) (w : Word) : State :=
  if s.ready then { s with cmd := { s.cmd with opb := w } } else s

/-- A write of STORE_POINTER (R86). -/
def State.writePointer (s : State) (w : Word) : State :=
  if s.ready then { s with pointer := pointerOfWord w } else s

/-- A write of SLOT_SELECT takes its value modulo 8 (R143). -/
def State.writeSlotSelect (s : State) (w : Word) : State :=
  if s.ready then { s with slotSelect := slotOfBits (w.extractLsb' 0 3) } else s

/-- The pointer after an accepted STORE_DATA access (R86). -/
def StorePointer.advance (p : StorePointer) : StorePointer := { p with offset := p.offset + 1#12 }

/-- A write of STORE_DATA: the word is stored and the offset advances, or the write is refused (R88, R89). -/
def State.writeStoreData (s : State) (w : Word) : State :=
  if s.ready then
    match s.windowAddress true with
    | some a => { s with store := s.store.write a w, pointer := s.pointer.advance }
    | none => { s with windowFault := true }
  else s

/-- A read of STORE_DATA: the word is presented and the offset advances, or the read is refused with 0 (R87, R89). In
pin reset and STARTING it presents 0 and changes nothing else (R91, R141). -/
def State.readStoreData (s : State) : State :=
  if s.ready then
    match s.windowAddress false with
    | some a => { s with readData := some (s.store.read a), pointer := s.pointer.advance }
    | none => { s with readData := some 0#16, windowFault := true }
  else { s with readData := some 0#16 }

/-- A write at a window address; a read-only register or an empty address drops it (R139, R140). -/
def State.hostWrite (s : State) (address : BitVec 5) (w : Word) : State :=
  match address.toNat with
  | 0x00 => s.writeStatus w
  | 0x01 => s.writeControl w
  | 0x02 => s.writeTiming w
  | 0x03 => s.writeCommand w
  | 0x04 => s.writeOpa w
  | 0x05 => s.writeOpb w
  | 0x0E => s.writePointer w
  | 0x0F => s.writeStoreData w
  | 0x11 => s.writeSlotSelect w
  | _ => s

end Sys2Proof.Machine
end

