-- ==== Sys2Proof/Machine/Events.lean ====
section
/-! DEFINITION. The meanings of the commands that are events at the part's pins and timers: resets, timed events, card
lines and replies. -/

namespace Sys2Proof.Machine

/-- PIN_RESET (R141, R155). -/
def execPinReset (s : State) : Host.Outcome State Fault Refusal := .next s.pinReset

/-- RSTIN_RELEASE (R141). -/
def execRstinRelease (s : State) : Host.Outcome State Fault Refusal := .next s.release

/-- STARTING_END (R142). -/
def execStartingEnd (s : State) : Host.Outcome State Fault Refusal := .next s.endStarting

/-- SEAT_ACTIVE (R3). -/
def execSeatActive (n : Slot) (s : State) : Host.Outcome State Fault Refusal := .next (s.seatActive n)

/-- SEAT_INACTIVE_SETTLING (R5); a slot that has left SETTLING by then is removed (R5, R15). -/
def execSeatInactiveSettling (n : Slot) (s : State) : Host.Outcome State Fault Refusal := .next (s.seatInactive n)

/-- REMOVAL (R12, R13). -/
def execRemoval (n : Slot) (s : State) : Host.Outcome State Fault Refusal := .next (s.seatInactive n)

/-- SETTLE_TIMER_EXPIRY (R6). -/
def execSettleTimerExpiry (n : Slot) (s : State) : Host.Outcome State Fault Refusal := .next (s.settleExpiry n)

/-- AREQ_ACTIVE: the level of an AREQ line changes; one that goes active may make its slot attention-eligible
(R22, R46, R53). -/
def execAreqActive (n : Slot) (active : Bool) (s : State) : Host.Outcome State Fault Refusal :=
  .next (react s { s with lines := { s.lines with areq := s.lines.areq.set n active } })

/-- TREQ_ACTIVE: the level of a TREQ line changes; one that goes active may make its slot transfer-eligible
(R22, R47, R53). -/
def execTreqActive (n : Slot) (active : Bool) (s : State) : Host.Outcome State Fault Refusal :=
  .next (react s { s with lines := { s.lines with treq := s.lines.treq.set n active } })

/-- REPLY_RELEASE: in phase 2 the part drives the strobe active (R25). The lines show no reply only once the word cycle
before has ended, so the end of one whose reply has been taken comes first (log 12). -/
def execReplyRelease (s : State) : Host.Outcome State Fault Refusal :=
  let s' := react s s.finishWord
  .next (match s'.op with
    | some o => { s' with op := some { o with phase := .strobed } }
    | none => s')

/-- REPLY_TAKEN: a reply is taken in phase 3, and the word cycle ends in the same step, or, where its release is
held, stands in phase 4 (R25, R27, log 12). A reply shown in another phase, or none, is not taken (R25, R26, R161). -/
def execReplyTaken (lines : BitVec 2) (data : Word) (parity : BitVec 2) (s : State) :
    Host.Outcome State Fault Refusal :=
  .next (match s.op, replyOfLines lines with
    | some o, some r =>
      if o.phase = .strobed then
        let s' := s.takeReply o { reply := r, data := data, good := parityGood data parity }
        if s.releaseHeld then s' else react s s'.finishWord
      else s
    | _, _ => s)

/-- RESPONSE_WINDOW_EXPIRY: in phase 2 or 3 the word cycle ends as TIMEOUT; a reply taken has stopped the timing
(R25, R26). -/
def execResponseWindowExpiry (s : State) : Host.Outcome State Fault Refusal :=
  .next (match s.op with
    | some o =>
      match o.phase with
      | .answered _ => s
      | .released _ => s
      | .begun => react s (s.timeout o)
      | .strobed => react s (s.timeout o)
    | none => s)

/-- CLEAR_END (R39, R153). -/
def execClearEnd (s : State) : Host.Outcome State Fault Refusal := .next s.endClear

end Sys2Proof.Machine
end

