-- ==== Sys2Proof/Machine/HostAccess.lean ====
section
/-! DEFINITION. The meanings of the host's accesses to the registers other than COMMAND. -/

namespace Sys2Proof.Machine

/-- CONTROL_WRITE (R144). -/
def execControlWrite (w : Word) (s : State) : Host.Outcome State Fault Refusal := .next (s.writeControl w)

/-- TIMING_WRITE (R145). -/
def execTimingWrite (w : Word) (s : State) : Host.Outcome State Fault Refusal := .next (s.writeTiming w)

/-- STATUS_WRITE (R147). -/
def execStatusWrite (w : Word) (s : State) : Host.Outcome State Fault Refusal := .next (s.writeStatus w)

/-- STORE_POINTER_WRITE (R86). -/
def execStorePointerWrite (w : Word) (s : State) : Host.Outcome State Fault Refusal := .next (s.writePointer w)

/-- STORE_DATA_READ (R87). -/
def execStoreDataRead (s : State) : Host.Outcome State Fault Refusal := .next s.readStoreData

/-- STORE_DATA_WRITE (R88). -/
def execStoreDataWrite (w : Word) (s : State) : Host.Outcome State Fault Refusal := .next (s.writeStoreData w)

/-- SLOT_SELECT_WRITE (R143). -/
def execSlotSelectWrite (w : Word) (s : State) : Host.Outcome State Fault Refusal := .next (s.writeSlotSelect w)

/-- REGISTER_WRITE: OPA or OPB is set, a read-only register or an empty address drops the write (R139, R140, R151). At
the address of a register with a row of its own it is that register's write (log 16). -/
def execRegisterWrite (address : BitVec 5) (w : Word) (s : State) : Host.Outcome State Fault Refusal :=
  .next (s.hostWrite address w)

end Sys2Proof.Machine
end

