-- ==== Sys2Proof/Machine/HostCommands.lean ====
section
/-! DEFINITION. The meanings of the host's commands: each is a write of COMMAND with the command's code, its operands in
OPA and OPB (R148, R157, log 17). -/

namespace Sys2Proof.Machine

/-- UNKNOWN_COMMAND (R148, R157). -/
def execUnknownCommand (w : Word) (s : State) : Host.Outcome State Fault Refusal := .next (s.writeCommand w)

/-- SET_MODE (R17). -/
def execSetMode (s : State) : Host.Outcome State Fault Refusal := .next (s.writeCommand Command.setMode.code)

/-- REIDENTIFY (R18). -/
def execReidentify (s : State) : Host.Outcome State Fault Refusal := .next (s.writeCommand Command.reidentify.code)

/-- SET_ORDER (R44). -/
def execSetOrder (s : State) : Host.Outcome State Fault Refusal := .next (s.writeCommand Command.setOrder.code)

/-- HOLD (R55). -/
def execHold (s : State) : Host.Outcome State Fault Refusal := .next (s.writeCommand Command.hold.code)

/-- RESUME (R57). -/
def execResume (s : State) : Host.Outcome State Fault Refusal := .next (s.writeCommand Command.resume.code)

/-- TAKE_ATTENTION (R68). -/
def execTakeAttention (s : State) : Host.Outcome State Fault Refusal :=
  .next (s.writeCommand Command.takeAttention.code)

/-- RETIRE (R70). -/
def execRetire (s : State) : Host.Outcome State Fault Refusal := .next (s.writeCommand Command.retire.code)

/-- OPEN (R94). -/
def execOpen (s : State) : Host.Outcome State Fault Refusal := .next (s.writeCommand Command.openContext.code)

/-- ARM (R96). -/
def execArm (s : State) : Host.Outcome State Fault Refusal := .next (s.writeCommand Command.arm.code)

/-- ABORT (R106). -/
def execAbort (s : State) : Host.Outcome State Fault Refusal := .next (s.writeCommand Command.abort.code)

/-- CLOSE (R111). -/
def execClose (s : State) : Host.Outcome State Fault Refusal := .next (s.writeCommand Command.close.code)

/-- UNFENCE (R125). -/
def execUnfence (s : State) : Host.Outcome State Fault Refusal := .next (s.writeCommand Command.unfence.code)

/-- NEXT_EVENT (R135). -/
def execNextEvent (s : State) : Host.Outcome State Fault Refusal := .next (s.writeCommand Command.nextEvent.code)

/-- BUS_RESET (R152). -/
def execBusReset (s : State) : Host.Outcome State Fault Refusal := .next (s.writeCommand Command.busReset.code)

end Sys2Proof.Machine
end

