-- ==== Sys2Proof/Machine/Dispatch.lean ====
section
/-! DEFINITION. One arm per command: which meaning each constructor of Instr has. -/

namespace Sys2Proof.Machine

/-- A command's effect on everything but the queue. -/
def exec (i : Instr) (s : State) : Host.Outcome State Fault Refusal :=
  match i with
  | .pinReset => Sys2Proof.Machine.execPinReset s
  | .rstinRelease => Sys2Proof.Machine.execRstinRelease s
  | .startingEnd => Sys2Proof.Machine.execStartingEnd s
  | .seatActive n => Sys2Proof.Machine.execSeatActive n s
  | .seatInactiveSettling n => Sys2Proof.Machine.execSeatInactiveSettling n s
  | .removal n => Sys2Proof.Machine.execRemoval n s
  | .settleTimerExpiry n => Sys2Proof.Machine.execSettleTimerExpiry n s
  | .areqActive n active => Sys2Proof.Machine.execAreqActive n active s
  | .treqActive n active => Sys2Proof.Machine.execTreqActive n active s
  | .replyRelease => Sys2Proof.Machine.execReplyRelease s
  | .replyTaken lines data parity => Sys2Proof.Machine.execReplyTaken lines data parity s
  | .responseWindowExpiry => Sys2Proof.Machine.execResponseWindowExpiry s
  | .clearEnd => Sys2Proof.Machine.execClearEnd s
  | .controlWrite w => Sys2Proof.Machine.execControlWrite w s
  | .timingWrite w => Sys2Proof.Machine.execTimingWrite w s
  | .statusWrite w => Sys2Proof.Machine.execStatusWrite w s
  | .storePointerWrite w => Sys2Proof.Machine.execStorePointerWrite w s
  | .storeDataRead => Sys2Proof.Machine.execStoreDataRead s
  | .storeDataWrite w => Sys2Proof.Machine.execStoreDataWrite w s
  | .slotSelectWrite w => Sys2Proof.Machine.execSlotSelectWrite w s
  | .registerWrite address w => Sys2Proof.Machine.execRegisterWrite address w s
  | .unknownCommand w => Sys2Proof.Machine.execUnknownCommand w s
  | .setMode => Sys2Proof.Machine.execSetMode s
  | .reidentify => Sys2Proof.Machine.execReidentify s
  | .setOrder => Sys2Proof.Machine.execSetOrder s
  | .hold => Sys2Proof.Machine.execHold s
  | .resume => Sys2Proof.Machine.execResume s
  | .takeAttention => Sys2Proof.Machine.execTakeAttention s
  | .retire => Sys2Proof.Machine.execRetire s
  | .openContext => Sys2Proof.Machine.execOpen s
  | .arm => Sys2Proof.Machine.execArm s
  | .abort => Sys2Proof.Machine.execAbort s
  | .close => Sys2Proof.Machine.execClose s
  | .unfence => Sys2Proof.Machine.execUnfence s
  | .nextEvent => Sys2Proof.Machine.execNextEvent s
  | .busReset => Sys2Proof.Machine.execBusReset s

end Sys2Proof.Machine
end

