-- ==== Sys2Proof/Safety.lean ====
section
/-! DEFINITION. The laws the manual says hold of the part at every moment, and the terms in which the statements about
commands are written. -/

namespace Sys2Proof.Machine

/-! ## Terms -/

/-- A write of COMMAND is taken as a command: the command unit is IDLE, STARTING is over (R148). -/
abbrev State.takesCommand (s : State) : Prop :=
  s.lines.rstin = false ∧ s.starting = false ∧ s.cmd.executing = none

/-- The host window takes accesses (R141, R142). -/
abbrev State.takesAccess (s : State) : Prop := s.lines.rstin = false ∧ s.starting = false

/-- The part once a COMMAND word has been taken and completed at once (R148, R149). -/
def State.completed (s : State) (word : Word) (result : Result) (datum : Word) : State :=
  { s with cmd := { s.cmd with code := word, executing := none, result := result, resultData := datum } }

/-- The part once a COMMAND word has been taken and stays EXECUTING (R148, R149). -/
def State.waiting (s : State) (word : Word) : State :=
  { s with cmd := { s.cmd with
      code := word, executing := some ⟨word, s.cmd.opa, s.cmd.opb⟩, resultData := 0#16 } }

/-- The slot named in OPA, bits 2–0 (R157). -/
def State.named (s : State) : Slot := Fin.ofNat 8 s.cmd.opa.toNat

/-- The chain order list carried in two operand words: position p in bits 4p + 2 down to 4p, OPA for positions 0 to 3 and
OPB for positions 4 to 7 (R158). -/
def carriedOrder (opa opb : Word) : Vector Slot 8 :=
  Vector.ofFn fun p : Position => Fin.ofNat 8 ((if p.val < 4 then opa else opb).toNat / 16 ^ (p.val % 4))

/-- CONTROL as taken from a word, field by field (R144). -/
def takenControl (w : Word) : Control :=
  { attentionEnable := decide (w.toNat / 32768 = 1)
    eventEnable := decide (w.toNat / 16384 % 2 = 1)
    discipline := if w.toNat / 8192 % 2 = 1 then .rotating else .fixed
    threshold := if w.toNat / 256 % 16 = 0 then 1 else w.toNat / 256 % 16
    depth := if w.toNat % 16 = 0 then 1 else if 8 < w.toNat % 16 then 8 else w.toNat % 16 }

/-- Slot `n` holds a claim and stands before every other slot that holds it, by a measure of scan order (R48). -/
def firstClaim (claim : Slot → Bool) (distance : Slot → Nat) (n : Slot) : Prop :=
  claim n = true ∧ ∀ m : Slot, claim m = true → distance n ≤ distance m

/-- How far into the transfer scan a slot stands (R48). -/
def State.transferDistance (s : State) (n : Slot) : Nat :=
  match s.control.discipline with
  | .fixed => s.position n
  | .rotating => (s.position n + 8 - s.arb.origin.val) % 8

/-- The seat states past SETTLING (R12, R19). -/
def SeatState.pastSettling (x : SeatState) : Bool := x ≠ .empty && x ≠ .settling

/-- The slot holds some claim on the bus (chapter 3, section 3.3). -/
def State.claims (s : State) (n : Slot) : Bool :=
  s.identifyCandidate n || s.attentionEligible n || s.transferEligible n

/-- The host's writes of COMMAND that name a command (R157). -/
def hostCommands : List Instr :=
  [.setMode, .reidentify, .setOrder, .hold, .resume, .takeAttention, .retire, .openContext, .arm, .abort, .close,
   .unfence, .nextEvent, .busReset]

/-- A transfer halted for a reason if it is ARMED, and any other transfer as it is (R103 to R105). -/
def Transfer.haltIfArmed (x : Transfer) (reason : HaltReason) : Transfer :=
  if x.phase = .armed then { x with phase := .halted reason } else x

/-- The HALTED entry of a transfer halted for a reason (R102). -/
def haltedEntry (n : Slot) (x : Transfer) (reason : HaltReason) : Event :=
  .transfer n (.halted reason) x.tag x.direction x.moved

/-- The HALTED entry that halting a slot's context inserts: one where the context is ARMED, none otherwise (R102). -/
def State.haltEntries (s : State) (n : Slot) (reason : HaltReason) : List Event :=
  match (s.context n).transfer with
  | some x => if x.phase = .armed then [haltedEntry n x reason] else []
  | none => []

/-- A slot that a fence takes: ONLINE with its count at or above a threshold (R118). -/
def SlotRecord.fencedAt (r : SlotRecord) (threshold : Nat) : Bool := r.seat = .online && threshold ≤ r.errorCount

/-- The part after the end of a burst of an ARMED context, its operation gone: a slot at or above the threshold is fenced,
which halts the context and reports HALTED and then FENCED; otherwise a waiting ABORT halts the context, and otherwise it
stays ARMED. A waiting ABORT completes OVERTAKEN where the slot is fenced and OK where it is not (R101, R108, R120, R122). -/
def State.burstSettled (s : State) (n : Slot) (x : Transfer) (detail : Option ErrorKind) : State :=
  let fenced := (s.slot n).fencedAt s.control.threshold
  let pending := (s.context n).abortPending
  { s with
    slots := if fenced then s.slots.set n { s.slot n with seat := .fenced } else s.slots
    contexts := s.contexts.set n
      { transfer := some (if fenced then { x with phase := .halted .fenced }
                          else if pending then { x with phase := .halted .aborted } else x),
        abortPending := false }
    events := if fenced then insertSeat n (.fenced detail) (s.events ++ [haltedEntry n x .fenced])
              else if pending then s.events ++ [haltedEntry n x .aborted] else s.events
    cmd := if pending then
             { s.cmd with executing := none, result := if fenced then .overtaken else .ok,
                          resultData := BitVec.ofNat 16 x.moved }
           else s.cmd }

/-! The codes of chapter 10 as numbers. -/

/-- Result codes (10 section 10.3). -/
def resultCode : Result → Nat
  | .ok => 0 | .badOperand => 1 | .wrongState => 2 | .noSpace => 3 | .eventPending => 4
  | .stale => 5 | .alreadyDone => 6 | .overtaken => 7 | .notReady => 8

/-- Seat state codes (10 section 10.4). -/
def seatCode : SeatState → Nat
  | .empty => 0 | .settling => 1 | .identifyWait => 2 | .identifying => 3 | .online => 4 | .failed => 5 | .fenced => 6

/-- Mode codes (10 section 10.4). -/
def modeCode : Mode → Nat
  | .join => 0 | .attnOnly => 1 | .pass => 2

/-- Error kind codes (10 section 10.4). -/
def errorCode : ErrorKind → Nat
  | .timeout => 1 | .parity => 2 | .cardFault => 3 | .protocol => 4 | .badIdent => 5

/-- Codes of the operation of a last error (10 section 10.4). -/
def operationCode : ErrorOperation → Nat
  | .identify => 1 | .acknowledge => 2 | .burst => 3

/-- Context state codes of an open context (10 section 10.4). -/
def phaseCode : Phase → Nat
  | .loading => 1 | .armed => 2 | .done => 3 | .halted _ => 4

/-- Halt reason codes (10 section 10.4). -/
def reasonCode : HaltReason → Nat
  | .aborted => 1 | .unseated => 2 | .fenced => 3 | .busReset => 4

/-- Kind codes of a SEAT-class entry (10 section 10.5). -/
def seatKindCode : SeatChange → Nat
  | .seated => 1 | .unseated => 2 | .identFailed _ => 3 | .fenced _ => 4

/-- Detail codes of a SEAT-class entry, THRESHOLD being 6 and an absent detail 0 (10 sections 10.4 and 10.5). -/
def seatDetailCode : SeatChange → Nat
  | .seated => 0 | .unseated => 0
  | .identFailed k => errorCode k
  | .fenced (some k) => errorCode k
  | .fenced none => 6

/-! ## Laws -/

/-- The transfer store keeps its canonical form. -/
abbrev State.storeLaw (s : State) : Prop := s.store.wf

/-- The fields the host sets hold values the manual gives them (R144, R145), the chain order list holds every slot once
(R43), and error counts stay in 0..15 (R116). -/
abbrev State.registerLaw (s : State) : Prop :=
  (1 ≤ s.control.threshold ∧ s.control.threshold ≤ 15) ∧ (1 ≤ s.control.depth ∧ s.control.depth ≤ 8)
    ∧ (1 ≤ s.timing.settleTime ∧ s.timing.settleTime ≤ 255)
    ∧ (1 ≤ s.timing.responseWindow ∧ s.timing.responseWindow ≤ 63)
    ∧ s.arb.order.toList.Nodup ∧ ∀ n : Slot, (s.slot n).errorCount ≤ 15

/-- The pages a slot's context holds (R92). -/
def State.heldPages (s : State) (n : Slot) : List Page :=
  match (s.context n).transfer with
  | some x => x.pages
  | none => []

/-- Every page is on the free page list or on exactly one context's page list, once (R79); an open context holds
ceil(count / 32) pages for a count of 1..2048 (R92, R94). -/
abbrev State.pageLaw (s : State) : Prop :=
  (s.freePages ++ allSlots.flatMap s.heldPages).Perm allPages
    ∧ ∀ n : Slot, ∀ x ∈ (s.context n).transfer,
        1 ≤ x.count ∧ x.count ≤ 2048 ∧ x.pages.length = (x.count + 31) / 32

/-- The context state a TRANSFER-class entry reports (R102). -/
def TransferEnd.phase : TransferEnd → Phase
  | .done => .done
  | .halted r => .halted r

/-- A SEAT-class entry has absorbed 1 to 15 changes (R126). A TRANSFER-class entry reports the context its slot still holds (R102, R112). -/
abbrev State.entryAgrees (s : State) : Event → Prop
  | .seat _ _ k => 1 ≤ k ∧ k ≤ 15
  | .transfer n ending tag direction words =>
    (s.context n).transfer.isSome = true ∧
      ∀ x ∈ (s.context n).transfer,
        x.tag = tag ∧ x.direction = direction ∧ x.moved = words ∧ x.phase = ending.phase

/-- Contexts and reports: moved is at most count and equals it exactly in DONE (R93), LOADING has moved nothing, the
event queue holds at most one entry of each class for a slot (R128), and entries agree with what they report. -/
abbrev State.reportLaw (s : State) : Prop :=
  (∀ n : Slot, ∀ x ∈ (s.context n).transfer,
      x.moved ≤ x.count ∧ (x.moved = x.count ↔ x.phase = .done) ∧ (x.phase = .loading → x.moved = 0))
    ∧ (∀ n : Slot, (s.events.filter (Event.isSeatOf n)).length ≤ 1 ∧ (s.events.filter (Event.isTransferOf n)).length ≤ 1)
    ∧ ∀ e ∈ s.events, s.entryAgrees e

/-- Attention standing: a slot appears at most once in the queue and the in-service set together (R61), the queue holds at
most 8 entries (R62), and the slot of an ACKNOWLEDGE in flight stands NONE with room for its entry. -/
abbrev State.attentionLaw (s : State) : Prop :=
  s.control.depth ≤ 8
    ∧ (s.attention.map AttentionEntry.slot).Nodup
    ∧ (∀ e ∈ s.attention, s.inService[e.slot] = false)
    ∧ s.attention.length ≤ 8
    ∧ ∀ o ∈ s.op, o.kind = .acknowledge →
        s.queued o.slot = false ∧ s.inService[o.slot] = false ∧ s.attention.length < 8

/-- While the bus may be used no slot holds a claim (R53). The chain order list names every slot, so that every claim
is found. -/
abbrev State.workLaw (s : State) : Prop :=
  s.arb.order.toList.Nodup ∧ (s.mayChoose = true → ∀ n : Slot, s.claims n = false)

/-- A burst of the slot is in flight whose end has been asked for (R36). -/
def State.endingBurst (s : State) (n : Slot) : Bool :=
  match s.op with
  | some { kind := .burst b, slot := m, .. } => m == n && b.boundary
  | _ => false

/-- An IDENTIFY of the slot is in flight. -/
def State.identifyInFlight (s : State) (n : Slot) : Bool :=
  match s.op with
  | some { kind := .identify _, slot := m, .. } => m == n
  | _ => false

/-- The word of the word cycle in progress is a burst word that its reply has moved (R33, R34). -/
def Operation.wordMoved (o : Operation) : Bool :=
  match o.kind, o.phase.answer with
  | .burst b, some a => a.moves b.direction
  | _, _ => false

/-- What holds of the operation in flight: its slot's seat state, and for a burst its size, its word index, and while words
remain to it the ARMED context (R7, R23, R32, R97). A BURST_IN drives no data line, nor does a release (R25). -/
abbrev State.operationLaw (s : State) (o : Operation) : Prop :=
  (1 ≤ o.window ∧ o.window ≤ 63) ∧
  match o.kind with
  | .identify w => (s.slot o.slot).seat = .identifying ∧ o.index = (if w = none then 0 else 1)
  | .acknowledge =>
    ((s.slot o.slot).seat = .online ∨ (s.slot o.slot).seat = .fenced ∨ (s.slot o.slot).seat = .identifyWait) ∧
      (s.slot o.slot).ident.isSome = true ∧ o.index = 0
  | .burst b =>
    (s.slot o.slot).seat = .online ∧ b.size ≤ 32 ∧ (b.direction = .input → b.driven = none) ∧
      (∀ a, o.phase = .released a → b.driven = none) ∧
      (b.boundary = true → o.phase ≠ .begun) ∧ b.moved = (if o.wordMoved then o.index + 1 else o.index) ∧
      (b.moved < b.size ∨ (b.moved = b.size ∧ o.wordMoved = true)) ∧
      (b.moved < b.size → (s.context o.slot).transfer.isSome = true) ∧
      ∀ x ∈ (s.context o.slot).transfer, b.moved < b.size →
        x.phase = .armed ∧ x.direction = b.direction ∧ b.size - b.moved ≤ x.count - x.moved

/-- What holds of a slot record beside the threshold: the settle timer runs exactly in SETTLING, the ident record is
valid where the slot is served or fenced and absent where the manual says so, the count is 0 before ONLINE
(R1, R9, R11, R119). -/
abbrev SlotRecord.law (r : SlotRecord) : Prop :=
  (r.timer.isSome = true ↔ r.seat = .settling) ∧ (∀ t ∈ r.timer, 1 ≤ t)
    ∧ ((r.seat = .online ∨ r.seat = .fenced) → r.ident.isSome = true)
    ∧ (∀ i ∈ r.ident, i.failedCheck = none)
    ∧ ((r.seat = .empty ∨ r.seat = .settling ∨ r.seat = .failed) → r.ident = none)
    ∧ ((r.seat = .settling ∨ r.seat = .identifyWait ∨ r.seat = .identifying ∨ r.seat = .failed) → r.errorCount = 0)

/-- What holds of the command unit: EXECUTING exactly while a HOLD, an ABORT or a BUS RESET waits for what its rule
names (R55, R56, R92, R107, R148, R152, R153). -/
abbrev State.commandLaw (s : State) : Prop :=
  (∀ r ∈ s.cmd.executing,
      (r.code = Command.hold.code ∧ s.arb.hold = .holding)
        ∨ (r.code = Command.busReset.code ∧ s.clear = true)
        ∨ (r.code = Command.abort.code ∧ ∃ n : Slot, (s.context n).abortPending = true))
    ∧ (s.arb.hold = .holding → s.op.isSome = true ∧ s.cmd.executing.map CommandRecord.code = some Command.hold.code)
    ∧ (∀ n : Slot, (s.context n).abortPending = true →
        s.endingBurst n = true ∧ s.cmd.executing.map CommandRecord.code = some Command.abort.code ∧
          ∃ x ∈ (s.context n).transfer, x.phase = .armed ∨ x.phase = .done)
    ∧ (s.clear = true → s.takesAccess → s.cmd.executing.map CommandRecord.code = some Command.busReset.code)

/-- The laws that tie the seat monitor, the arbiter, the bus sequencer, the transfer engine and the command unit
together. -/
structure State.partLaw (s : State) : Prop where
  /-- While RSTIN# is active CLEAR is driven (R37); STARTING begins at its release (R155). -/
  reset : s.lines.rstin = true → s.clear = true ∧ s.starting = false
  /-- Until STARTING ends every slot is EMPTY, every context CLOSED, nothing executes or is in flight (R2, R77, R141). -/
  quiet : s.lines.rstin = true ∨ s.starting = true →
    s.op = none ∧ s.cmd.executing = none ∧ s.arb.hold = .running ∧
      ∀ n : Slot, (s.slot n).seat = .empty ∧ (s.context n).transfer = none
  /-- No operation is in flight while CLEAR is active or the hold state is HELD (R23). -/
  still : s.clear = true ∨ s.arb.hold = .held → s.op = none
  /-- The operation in flight (R23). -/
  operation : ∀ o ∈ s.op, s.operationLaw o
  /-- A slot is IDENTIFYING while its IDENTIFY is in flight (R7). -/
  identifying : ∀ n : Slot, (s.slot n).seat = .identifying → s.identifyInFlight n = true
  /-- A context is ARMED only while its slot is ONLINE with a transfer-capable ident (R97). -/
  armed : ∀ n : Slot, s.armed n = true → (s.slot n).seat = .online ∧ (s.slot n).transferCapable = true
  /-- Slot records. -/
  slots : ∀ n : Slot, (s.slot n).law
  /-- The error count of a slot neither FENCED nor EMPTY is below the threshold, but for the exception of R119. -/
  fence : ∀ n : Slot, (s.slot n).seat ≠ .fenced → (s.slot n).seat ≠ .empty →
    (s.slot n).errorCount < s.control.threshold ∨ ((s.slot n).seat = .online ∧ s.endingBurst n = true)
  /-- The threshold and the window TIMING holds (R118, R145). -/
  fields : 1 ≤ s.control.threshold ∧ 1 ≤ s.timing.settleTime ∧ 1 ≤ s.timing.responseWindow ∧ s.timing.responseWindow ≤ 63
  /-- The command unit. -/
  command : s.commandLaw

end Sys2Proof.Machine
end

