-- ==== Sys2Proof/WellFormed.lean ====
section
/-! DEFINITION. When a command is the event its row names: the checks on operands alone. A command that is not
well formed still has a meaning (log 16), the one the same lines or the same access have in the part. -/

namespace Sys2Proof

/-- The fourteen words that name a command (R157). -/
def commandWords : List Word :=
  [0x0001#16, 0x0002#16, 0x0003#16, 0x0004#16, 0x0005#16, 0x0006#16, 0x0008#16, 0x0009#16,
   0x0010#16, 0x0011#16, 0x0012#16, 0x0013#16, 0x0018#16, 0x003C#16]

/-- The addresses of the writable registers that have a row of their own: STATUS, CONTROL, TIMING, COMMAND,
STORE_POINTER, STORE_DATA and SLOT_SELECT (10 section 10.1). -/
def addressesWithOwnRow : List (BitVec 5) :=
  [0x00#5, 0x01#5, 0x02#5, 0x03#5, 0x0E#5, 0x0F#5, 0x11#5]

/-- REPLY_TAKEN carries a reply (R161), REGISTER_WRITE names a register without a row of its own (R140),
UNKNOWN_COMMAND's word names no command (R157); every other command is well formed as it stands. -/
def Instr.wellFormed : Instr → Bool
  | .replyTaken reply _ _ => reply != 0#2
  | .registerWrite address _ => !addressesWithOwnRow.contains address
  | .unknownCommand word => !commandWords.contains word
  | .pinReset => true
  | .rstinRelease => true
  | .startingEnd => true
  | .seatActive _ => true
  | .seatInactiveSettling _ => true
  | .removal _ => true
  | .settleTimerExpiry _ => true
  | .areqActive _ _ => true
  | .treqActive _ _ => true
  | .replyRelease => true
  | .responseWindowExpiry => true
  | .clearEnd => true
  | .controlWrite _ => true
  | .timingWrite _ => true
  | .statusWrite _ => true
  | .storePointerWrite _ => true
  | .storeDataRead => true
  | .storeDataWrite _ => true
  | .slotSelectWrite _ => true
  | .setMode => true
  | .reidentify => true
  | .setOrder => true
  | .hold => true
  | .resume => true
  | .takeAttention => true
  | .retire => true
  | .openContext => true
  | .arm => true
  | .abort => true
  | .close => true
  | .unfence => true
  | .nextEvent => true
  | .busReset => true

end Sys2Proof
end

