-- ==== Sys2Proof/Certificates/Slice0/Obligations.lean ====
section
/-! DEFINITION. What is claimed of the OJ4180, for the provers to settle. -/

open Sys2Proof Sys2Proof.Machine

/-! ## The machine -/

/-- A step takes the command at the front of the queue and runs it on the state with the queue's rest. -/
def Obligations.StepRunsTheFrontCommand : Prop :=
  ∀ (s : State) (i : Instr) (rest : List Instr), s.pending = i :: rest → step s = exec i { s with pending := rest }

/-- On an empty queue a step is one microsecond (the model's choice, log 4). Each settle timer that runs counts down, and one
that stands in its last microsecond is left by its slot, which becomes an identify candidate (R4, R6): with no such timer
only timers change, with one the arbiter may choose, and with several none of their slots is left SETTLING. Where the reply of
the word cycle in progress has been taken no timer counts: phase 4 gives way to phase 5, in which the part drives neither the
strobe nor the data lines (R25), and phase 5 to the end of the word cycle, at which the arbiter may choose. That these are
steps of their own is log 12. At that end an IDENTIFY or ACKNOWLEDGE goes on or ends as by REPLY_TAKEN with no release held,
whatever commands fell into the release (R29 to R31), and a burst whose word was moved, with words and no boundary before it,
begins its next word cycle (R25, R26, R33). The other ends of a burst are `LastWordMakesTheTransferDone`,
`BurstEndsWithoutError` and `BurstErrorIsCounted`. -/
def Obligations.EmptyQueueStepIsOneMicrosecond : Prop :=
  ∀ s : State, s.pending = [] →
    let expiring := fun n : Slot => (s.slot n).seat = .settling ∧ ∃ k, (s.slot n).timer = some k ∧ k ≤ 1
    let passed := fun n : Slot =>
      { s.slot n with timer := (s.slot n).timer.map fun k => if 2 ≤ k then k - 1 else 1 }
    ∃ t, step s = .next t ∧
      (∀ o a, s.op = some o → o.phase = .answered a →
        t.strobe = false ∧ t.dataLines = none ∧
        t = { s with op := some { o with
                kind := match o.kind with
                  | .burst b => .burst { b with driven := none }
                  | kind => kind
                phase := .released a } }) ∧
      (∀ o a, s.op = some o → o.phase = .released a →
        t = react s s.finishWord ∧ (∀ n : Slot, (t.slot n).timer = (s.slot n).timer) ∧
        (∀ lines parity, (∀ b, o.kind ≠ .burst b) → replyOfLines lines = some a.reply →
          parityGood a.data parity = a.good →
          exec (.replyTaken lines a.data parity)
              { s with op := some { o with phase := .strobed }, releaseHeld := false } =
            .next { t with releaseHeld := false }) ∧
        ∀ b x, o.kind = .burst b → (s.context o.slot).transfer = some x → a.reply = .take →
          (b.direction = .output ∨ a.good = true) → b.moved < b.size → b.boundary = false →
          t = { s with op := some { o with
                  kind := .burst { b with
                    driven := if b.direction = .output then (x.address x.moved).map s.store.read else none }
                  index := o.index + 1, window := s.timing.responseWindow, phase := .begun } }) ∧
      ((∀ o, s.op = some o → o.phase.answer = none) →
        ((∀ n, ¬expiring n) → t = { s with slots := t.slots } ∧ ∀ n : Slot, t.slot n = passed n) ∧
        (∀ n, expiring n → (∀ m, m ≠ n → ¬expiring m) →
          ∃ u, t = react s u ∧ u = { s with slots := u.slots } ∧
            u.slot n = { s.slot n with seat := .identifyWait, timer := none } ∧ ∀ m, m ≠ n → u.slot m = passed m) ∧
        ∀ n, expiring n →
          (t.slot n).timer = none ∧ ((t.slot n).seat = .identifyWait ∨ (t.slot n).seat = .identifying))

/-- Every command answers a next state from every state, which is the model's reading that the manual gives every command an
effect in every state (log 23), and leaves the queue of commands that wait and whether releases are held, which are the
model's own (log 2, log 12). -/
def Obligations.EveryCommandAnswersANextStateAndLeavesTheQueue : Prop :=
  ∀ (i : Instr) (s : State), ∃ t, exec i s = .next t ∧ t.pending = s.pending ∧ t.releaseHeld = s.releaseHeld

/-- The part in pin reset meets every law. -/
def Obligations.PinResetMeetsEveryLaw : Prop :=
  State.reset.storeLaw ∧ State.reset.registerLaw ∧ State.reset.pageLaw ∧ State.reset.reportLaw ∧
    State.reset.attentionLaw ∧ State.reset.workLaw ∧ State.reset.partLaw

/-- Every step keeps the transfer store's canonical form. -/
def Obligations.StepKeepsTheStoreForm : Prop :=
  ∀ s t : State, s.storeLaw → step s = .next t → t.storeLaw

/-- Every step keeps CONTROL, TIMING, the error counts in their ranges and every slot on the chain order list once. -/
def Obligations.StepKeepsRegisterRanges : Prop :=
  ∀ s t : State, s.registerLaw → step s = .next t → t.registerLaw

/-- Every step keeps every store page on the free page list or on exactly one open context's page list (R79). -/
def Obligations.StepKeepsEveryPageOnOneList : Prop :=
  ∀ s t : State, s.pageLaw → step s = .next t → t.pageLaw

/-- Every step keeps moved within count, equal exactly in DONE (R93), at most one event entry of each class for a slot,
every TRANSFER-class entry in agreement with the context its slot still holds (R112), and so at most 16 entries (R128). -/
def Obligations.StepKeepsContextsAndReports : Prop :=
  ∀ s t : State, s.reportLaw → step s = .next t → t.reportLaw ∧ t.events.length ≤ 16

/-- Every step keeps each slot at most once in the attention queue and the in-service set together (R61), and the queue
at 8 entries at most (R62). -/
def Obligations.StepKeepsAttentionStanding : Prop :=
  ∀ s t : State, s.attentionLaw → step s = .next t → t.attentionLaw

/-- Every step keeps the bus in use: while the bus is free, the hold state RUNNING and STARTING over, no slot holds a
claim (R53). -/
def Obligations.StepKeepsTheBusInUse : Prop :=
  ∀ s t : State, s.workLaw → step s = .next t → t.workLaw

/-- Every step keeps the laws that tie the blocks together: the operation in flight and its slot, ARMED only while ONLINE
and transfer-capable (R97), counts below the threshold (R119), no operation under CLEAR or HELD (R23), and the command
unit EXECUTING exactly while a HOLD, an ABORT or a BUS RESET waits. The second premise gives an ARMED context at least one
word remaining (R93), and is kept by `StepKeepsContextsAndReports`. That the count is 0 in IDENTIFY_WAIT rests on log 20. -/
def Obligations.StepKeepsThePartTogether : Prop :=
  ∀ s t : State, s.partLaw → s.reportLaw → step s = .next t → t.partLaw

/-! ## Rules over all commands -/

/-- What the host sets changes by the command that sets it, or by pin reset, and by no other command: the free page list
(R78), the chain order list (R43), CONTROL and TIMING (R144, R145), a slot's programmed mode (R17). A context leaves CLOSED
by OPEN; its direction, count, tag and page list are fixed and its moved never falls until CLOSE (R92, R93). -/
def Obligations.SettingsChangeOnlyByTheirCommands : Prop :=
  ∀ (i : Instr) (s t : State), i.wellFormed = true → exec i s = .next t →
    (t.freePages ≠ s.freePages → i = .openContext ∨ i = .close ∨ i = .pinReset) ∧
    (t.arb.order ≠ s.arb.order → i = .setOrder ∨ i = .pinReset) ∧
    (t.control ≠ s.control → (∃ w, i = .controlWrite w) ∨ i = .pinReset) ∧
    (t.timing ≠ s.timing → (∃ w, i = .timingWrite w) ∨ i = .pinReset) ∧
    (∀ n : Slot, (t.slot n).mode ≠ (s.slot n).mode → i = .setMode ∨ i = .pinReset) ∧
    ∀ n : Slot, i ≠ .pinReset →
      ((s.context n).transfer = none → i ≠ .openContext → (t.context n).transfer = none) ∧
      ∀ x, (s.context n).transfer = some x → i ≠ .close →
        ∃ y, (t.context n).transfer = some y ∧ y.direction = x.direction ∧ y.count = x.count ∧ y.tag = x.tag ∧
          y.pages = x.pages ∧ x.moved ≤ y.moved

/-- Three things write store words (R76): the start-up clear, which the model applies whole at the end of STARTING (log 7);
a word moved in a BURST_IN, which is one answered TAKE with good parity while the strobe is out, at offset moved of the ARMED
context of its slot (R28, R34); and an accepted STORE_DATA write. -/
def Obligations.StoreWordsAreWrittenByThreeThings : Prop :=
  ∀ (i : Instr) (s t : State) (a : Nat), i.wellFormed = true → s.storeLaw → exec i s = .next t →
    t.store.read a ≠ s.store.read a →
      (i = .startingEnd ∧ s.lines.rstin = false ∧ s.starting = true ∧ t.store.read a = 0#16) ∨
      (∃ w x, i = .storeDataWrite w ∧ s.takesAccess ∧ (s.context s.pointer.slot).transfer = some x ∧ x.phase = .loading ∧
        x.address s.pointer.offset.toNat = some a ∧ t.store.read a = w) ∨
      (∃ data parity o b x, i = .replyTaken 1#2 data parity ∧ s.op = some o ∧ o.phase = .strobed ∧ o.kind = .burst b ∧
        b.direction = .input ∧ parityGood data parity = true ∧ (s.context o.slot).transfer = some x ∧ x.phase = .armed ∧
        x.address x.moved = some a ∧ t.store.read a = data)

/-- But for NEXT EVENT and pin reset, every command leaves every event entry in its place, a TRANSFER-class entry
unchanged and a SEAT-class entry for the same slot, its changes count raised or 15 where the entry is another, and adds new
entries behind them (R129, R130, R133). A SEAT-class change for a slot with no entry of that class is a new entry with changes 1
at the tail (R129); for one with such an entry that entry keeps its place, takes the kind and the detail of the change, absent
where the change has none, and its changes count rises by 1, stopping at 15 (R130, R131). -/
def Obligations.EntriesKeepTheirPlaces : Prop :=
  (∀ (i : Instr) (s t : State), i.wellFormed = true → i ≠ .nextEvent → i ≠ .pinReset → exec i s = .next t →
    ∃ kept new, t.events = kept ++ new ∧
      List.Forall₂ (fun e e' => e' = e ∨
        ∃ n c k c' k', e = .seat n c k ∧ e' = .seat n c' k' ∧ (k < k' ∨ k' = 15)) s.events kept) ∧
  ∀ (n : Slot) (change : SeatChange),
    (∀ events : List Event, (∀ c k, Event.seat n c k ∉ events) →
      insertSeat n change events = events ++ [.seat n change 1]) ∧
    ∀ (before after : List Event) (old : SeatChange) (k : Nat), (∀ c j, Event.seat n c j ∉ before) →
      insertSeat n change (before ++ .seat n old k :: after) =
        before ++ .seat n change (if k < 15 then k + 1 else 15) :: after

/-! ## The arbiter -/

/-- A choice (R51) by the scans of R48: an identify candidate goes first, then the turn decides between the first
attention-eligible and the first transfer-eligible slot, and there is no choice exactly when no slot holds a claim. -/
def Obligations.ChoiceFollowsScanAndTurn : Prop :=
  ∀ s : State, s.arb.order.toList.Nodup →
    (∀ n, s.choice = some (.identify n) ↔ firstClaim s.identifyCandidate s.position n) ∧
    (∀ n, s.choice = some (.acknowledge n) ↔
      (∀ m, s.identifyCandidate m = false) ∧ firstClaim s.attentionEligible s.position n ∧
        (s.arb.turn = .attention ∨ ∀ m, s.transferEligible m = false)) ∧
    (∀ n, s.choice = some (.burst n) ↔
      (∀ m, s.identifyCandidate m = false) ∧ firstClaim s.transferEligible s.transferDistance n ∧
        (s.arb.turn = .transfer ∨ ∀ m, s.attentionEligible m = false)) ∧
    (s.choice = none ↔ ∀ m, s.claims m = false)

/-- What the claims are: an identify candidate is IDENTIFY_WAIT (R45); attention-eligible are the six conditions of R46;
transfer-eligible the five of R47. -/
def Obligations.ClaimsAreTheirConditions : Prop :=
  ∀ (s : State) (n : Slot),
    (s.identifyCandidate n = true ↔ (s.slot n).seat = .identifyWait) ∧
    (s.attentionEligible n = true ↔
      (s.slot n).seat = .online ∧ ((s.slot n).mode = .join ∨ (s.slot n).mode = .attnOnly) ∧
      (∃ i, (s.slot n).ident = some i ∧ i.attention = true) ∧ s.lines.areq[n] = true ∧
      (∀ e ∈ s.attention, e.slot ≠ n) ∧ s.inService[n] = false ∧ s.attention.length < s.control.depth) ∧
    (s.transferEligible n = true ↔
      (s.slot n).seat = .online ∧ (s.slot n).mode = .join ∧
      (∃ i, (s.slot n).ident = some i ∧ i.transfer = true) ∧ s.lines.treq[n] = true ∧
      ∃ x, (s.context n).transfer = some x ∧ x.phase = .armed)

/-- The start of an operation (R24, R7): the record at word index 0 with the response window of TIMING and the strobe not
yet driven; a burst takes the context's direction, the lower of burst limit and remaining words as its size (R32), and a
BURST_OUT drives the store word at offset moved (R33). -/
def Obligations.StartMakesTheOperationRecord : Prop :=
  ∀ (s : State) (n : Slot),
    s.start (.identify n) =
      { s with slots := s.slots.set n { s.slot n with seat := .identifying },
               op := some ⟨.identify none, n, 0, s.timing.responseWindow, .begun⟩ } ∧
    s.start (.acknowledge n) = { s with op := some ⟨.acknowledge, n, 0, s.timing.responseWindow, .begun⟩ } ∧
    ∀ x i, (s.context n).transfer = some x → (s.slot n).ident = some i →
      s.start (.burst n) =
        { s with op := some {
            kind := .burst { direction := x.direction, moved := 0, boundary := false,
                             size := if i.burstLimit.toNat ≤ x.count - x.moved then i.burstLimit.toNat
                                     else x.count - x.moved,
                             driven := if x.direction = .output then (x.address x.moved).map s.store.read else none },
            slot := n, index := 0, window := s.timing.responseWindow, phase := .begun } }

/-- The choice after an event, as `react` makes it (R53): at an event by which the bus became free or a slot came to hold a
claim a choice is made, provided the bus is free, the hold state RUNNING and STARTING over; without such an event, or
otherwise, `react` makes none. The statement is of `react` alone: the end of STARTING and RESUME, which R53 names too, make
their choice outright (`StartingRunsFromReleaseToItsEnd`, `ResumeMakesAChoice`). -/
def Obligations.ChoiceIsMadeAtTheEventsNamed : Prop :=
  ∀ before after : State,
    let event := (before.busFree = false ∧ after.busFree = true) ∨
      ∃ n : Slot, (after.identifyCandidate n = true ∧ before.identifyCandidate n = false) ∨
        (after.attentionEligible n = true ∧ before.attentionEligible n = false) ∨
        (after.transferEligible n = true ∧ before.transferEligible n = false)
    let may := after.op = none ∧ after.clear = false ∧ after.arb.hold = .running ∧ after.takesAccess
    (event → may → ∀ c, after.choice = some c → react before after = after.start c) ∧
    (event → may → after.choice = none → react before after = after) ∧
    (¬may → react before after = after) ∧
    (¬event → react before after = after)

/-- The end of an operation at the arbiter: an ACKNOWLEDGE gives the turn to TRANSFER, a burst to ATTENTION with the
origin behind its slot's position, 7 followed by 0 (R49, R50); in HOLDING the hold state becomes HELD and the waiting
HOLD completes OK with RESULT_DATA 0 (R56). -/
def Obligations.OperationEndSetsTurnOriginAndHold : Prop :=
  ∀ (s : State) (n : Slot) (kind : OperationKind),
    let u := s.operationEnd kind n
    u = { s with arb := u.arb, cmd := u.cmd } ∧ u.arb.order = s.arb.order ∧
    (∀ w, kind = .identify w → u.arb.turn = s.arb.turn ∧ u.arb.origin = s.arb.origin) ∧
    (kind = .acknowledge → u.arb.turn = .transfer ∧ u.arb.origin = s.arb.origin) ∧
    (∀ b, kind = .burst b → u.arb.turn = .attention ∧ u.arb.origin.val = (s.position n + 1) % 8) ∧
    (s.arb.hold = .holding → u.arb.hold = .held ∧
      u.cmd = { s.cmd with executing := none, result := .ok, resultData := 0#16 }) ∧
    (s.arb.hold ≠ .holding → u.arb.hold = s.arb.hold ∧ u.cmd = s.cmd)

/-! ## Resets and timed events -/

/-- PIN_RESET gives every block its pin reset values and drives CLEAR (R2, R37, R42, R60, R78, R92, R138, R155); the input
lines keep their levels, and the store words keep theirs until STARTING clears them (log 7). -/
def Obligations.PinResetGivesEveryBlockItsValues : Prop :=
  ∀ s : State, ∃ t, exec .pinReset s = .next t ∧
    t.lines = { s.lines with rstin := true } ∧ t.clear = true ∧ t.starting = false ∧ t.op = none ∧
    (∀ n : Slot, t.slot n =
      { seat := .empty, timer := none, ident := none, mode := .join, errorCount := 0, lastError := none }) ∧
    (∀ n : Slot, t.context n = { transfer := none, abortPending := false }) ∧
    (∀ p : Position, t.arb.order[p] = p) ∧ t.arb.origin = 0 ∧ t.arb.turn = .attention ∧ t.arb.hold = .running ∧
    t.attention = [] ∧ (∀ n : Slot, t.inService[n] = false) ∧ t.events = [] ∧
    t.freePages.map Fin.val = List.range 64 ∧
    t.control = { attentionEnable := false, eventEnable := false, discipline := .fixed, threshold := 4, depth := 8 } ∧
    t.timing = { settleTime := 20, responseWindow := 8 } ∧
    t.cmd = { opa := 0#16, opb := 0#16, code := 0#16, executing := none, result := .ok, resultData := 0#16 } ∧
    t.pointer = { slot := 0, offset := 0#12 } ∧ t.slotSelect = 0 ∧ t.overrun = false ∧ t.windowFault = false ∧
    t.hreq = false ∧ t.store = s.store ∧ t.releaseHeld = s.releaseHeld ∧ t.pending = s.pending

/-- STARTING runs from the release of RSTIN# to its end (R141, R142): the release sets STARTING with CLEAR still driven;
the end clears it, leaves every store word 0 (R77), takes each slot with SEAT active to SETTLING with the settle time of
TIMING (R2) and finds no claim. That the CLEAR pulse is over by then is log 6. -/
def Obligations.StartingRunsFromReleaseToItsEnd : Prop :=
  (∀ s : State, s.lines.rstin = true →
    exec .rstinRelease s =
      .next { s with lines := { s.lines with rstin := false }, starting := true, clear := true }) ∧
  ∀ s : State, s.lines.rstin = false → s.starting = true → s.op = none → (∀ n : Slot, (s.slot n).seat = .empty) →
    ∃ t, exec .startingEnd s = .next t ∧
      t = { s with starting := false, clear := false, store := t.store, slots := t.slots } ∧
      (∀ a, t.store.read a = 0#16) ∧
      ∀ n : Slot, t.slot n =
        if s.lines.seat[n] then
          { s.slot n with seat := .settling, timer := some (s.timing.settleTime * 1000), errorCount := 0,
                          lastError := none }
        else s.slot n

/-- CLEAR_END: at the end of a BUS RESET's pulse the BUS RESET completes OK with RESULT_DATA 0 and the arbiter takes the
bus becoming free (R39, R153); at the end of the pin reset pulse, within STARTING, no choice is made. -/
def Obligations.ClearEndCompletesBusReset : Prop :=
  (∀ (s : State) (r : CommandRecord), s.takesAccess → s.clear = true → s.cmd.executing = some r → r.code = 0x003C#16 →
    exec .clearEnd s =
      .next (react s { s with
        clear := false, cmd := { s.cmd with executing := none, result := .ok, resultData := 0#16 } })) ∧
  ∀ s : State, s.lines.rstin = false → s.starting = true → s.clear = true → s.cmd.executing = none →
    exec .clearEnd s = .next { s with clear := false }

/-- SETTLE_TIMER_EXPIRY: the time that remained on the slot's settle timer passes, every other timer that runs counting down by
it to its last microsecond at the lowest (R4; how time passes is the model's choice, log 4), and the slot goes from SETTLING
to IDENTIFY_WAIT, an event at which the arbiter chooses (R6). For a slot whose timer does not run it does nothing, which is
the model's choice (log 5). -/
def Obligations.SettleExpiryMakesAnIdentifyCandidate : Prop :=
  ∀ (s : State) (n : Slot),
    (∀ k, (s.slot n).seat = .settling → (s.slot n).timer = some k →
      ∃ u, exec (.settleTimerExpiry n) s = .next (react s u) ∧ u = { s with slots := u.slots } ∧
        u.slot n = { s.slot n with seat := .identifyWait, timer := none } ∧
        ∀ m : Slot, m ≠ n →
          u.slot m = { s.slot m with timer := (s.slot m).timer.map fun j => if k < j then j - k else 1 }) ∧
    ((s.slot n).seat ≠ .settling → exec (.settleTimerExpiry n) s = .next s)

/-! ## Card lines -/

/-- SEAT_ACTIVE takes an EMPTY slot to SETTLING with count 0, no last error and the settle timer loaded (R3, R4), and
SEAT_INACTIVE_SETTLING takes a SETTLING slot back to EMPTY with its timer stopped and no event (R5); in pin reset and STARTING
only the line changes (R2). The request lines keep their levels (log 9). -/
def Obligations.SeatLinesSettleAndEmptyASlot : Prop :=
  ∀ (s : State) (n : Slot),
    let seated : Lines := { s.lines with seat := s.lines.seat.set n true }
    let unseated : Lines := { s.lines with seat := s.lines.seat.set n false }
    (s.takesAccess → (s.slot n).seat = .empty →
      exec (.seatActive n) s =
        .next { s with lines := seated,
                       slots := s.slots.set n { s.slot n with
                         seat := .settling, timer := some (s.timing.settleTime * 1000), errorCount := 0,
                         lastError := none } }) ∧
    (s.takesAccess → (s.slot n).seat = .settling →
      exec (.seatInactiveSettling n) s =
        .next { s with lines := unseated, slots := s.slots.set n { s.slot n with seat := .empty, timer := none } }) ∧
    (¬s.takesAccess →
      exec (.seatActive n) s = .next { s with lines := seated } ∧
      exec (.seatInactiveSettling n) s = .next { s with lines := unseated } ∧
      exec (.removal n) s = .next { s with lines := unseated })

/-- REMOVAL (R12, R13): the slot goes to EMPTY with no ident; an operation with it is cut and its end taken by the
arbiter; its attention entry and its place in the in-service set go (R72); UNSEATED is reported, then HALTED for a context
that was ARMED (R103), and an ABORT that waited completes OVERTAKEN with moved. Nothing else changes but for the choice, which
is made after all of this (the model's choice, log 25); the request lines keep their levels (log 9). A reply of the slot's
operation that has been taken settles its word first (R38): that its word cycle then ends before the cut, so that all of this is
of the state in which it has ended and an ABORT that waited has been settled by that end, is the model's choice (log 12). The
premise on abort pending is part of `State.commandLaw` and `State.operationLaw`. -/
def Obligations.RemovalHandsTheSlotOff : Prop :=
  ∀ (s : State) (n : Slot), s.takesAccess → (s.slot n).seat.pastSettling = true →
    let f := if s.sel n then s.finishWord else s
    ((f.context n).abortPending = true → f.armed n = true) →
    let cut := f.sel n
    let ended := match f.op with
      | some o => f.operationEnd o.kind n
      | none => f
    ((∀ o, s.op = some o → o.phase.answer = none) → f = s) ∧
    exec (.removal n) s =
      .next (react s { f with
        lines := { s.lines with seat := s.lines.seat.set n false }
        slots := f.slots.set n { f.slot n with seat := .empty, timer := none, ident := none }
        op := if cut then none else f.op
        arb := if cut then ended.arb else f.arb
        attention := f.attention.filter (fun e => e.slot ≠ n)
        inService := f.inService.set n false
        events := insertSeat n .unseated f.events ++ f.haltEntries n .unseated
        contexts := f.contexts.set n
          { transfer := (f.context n).transfer.map fun x => x.haltIfArmed .unseated, abortPending := false }
        cmd := match (f.context n).abortPending, (f.context n).transfer with
          | true, some x => { f.cmd with executing := none, result := .overtaken,
                                         resultData := BitVec.ofNat 16 x.moved }
          | _, _ => if cut then ended.cmd else f.cmd })

/-- AREQ_ACTIVE and TREQ_ACTIVE: on a bus in use as R53 has it, a line that goes active and makes its slot eligible starts
that slot's ACKNOWLEDGE or burst at once; one that does not, or that goes inactive, or that changes while the arbiter may
not choose, changes the level and nothing else (R22, R53). That these commands carry a level is log 8. -/
def Obligations.RequestLinesStartOperations : Prop :=
  ∀ (s : State) (n : Slot), s.workLaw →
    let areq := fun v => { s with lines := { s.lines with areq := s.lines.areq.set n v } }
    let treq := fun v => { s with lines := { s.lines with treq := s.lines.treq.set n v } }
    (s.mayChoose = true → (areq true).attentionEligible n = true →
      exec (.areqActive n true) s =
        .next { areq true with op := some ⟨.acknowledge, n, 0, s.timing.responseWindow, .begun⟩ }) ∧
    (s.mayChoose = true → (treq true).transferEligible n = true →
      exec (.treqActive n true) s = .next ((treq true).start (.burst n))) ∧
    (s.mayChoose = false ∨ (areq true).attentionEligible n = false →
      exec (.areqActive n true) s = .next (areq true)) ∧
    (s.mayChoose = false ∨ (treq true).transferEligible n = false →
      exec (.treqActive n true) s = .next (treq true)) ∧
    exec (.areqActive n false) s = .next (areq false) ∧ exec (.treqActive n false) s = .next (treq false)

/-! ## Service bus -/

/-- The service bus in a word cycle. With no operation in flight SEL and the strobe are inactive and the data and parity lines
undriven (R22); in one the SEL line of its slot alone is active, the kind lines carry its kind (R161, 10 section 10.7), the
strobe is out in phases 3 and 4 alone, and by `State.operationLaw` the part drives data lines with the word of a BURST_OUT word
cycle alone, up to its phase 5, with good parity (R25, R28). REPLY_RELEASE drives the strobe of the word cycle in progress (R25).
The ident word answered TAKE with good parity is kept, and the capability word's cycle begins with the window then in TIMING
(R26, R30). Once the reply is taken no other reply is, and the window runs out no more (R25, R26). With no operation in flight
REPLY_RELEASE does nothing, which is the model's reading (log 13). How a release is held is the model's (log 12): a reply and
the held release that follows it, phase 4 and then phase 5 with strobe and data lines released, come to the reply with no
release held, and REPLY_RELEASE within the release ends it first. -/
def Obligations.WordCyclesDriveTheLinesAndGoOn : Prop :=
  (∀ s : State, s.op = none →
    (∀ n : Slot, s.sel n = false) ∧ s.strobe = false ∧ s.dataLines = none ∧ s.parityLines = none ∧
      exec .replyRelease s = .next s) ∧
  (∀ (s : State) (o : Operation), s.op = some o →
    (∀ n : Slot, s.sel n = true ↔ n = o.slot) ∧ (s.strobe = true ↔ o.phase = .strobed ∨ ∃ a, o.phase = .answered a) ∧
    (∀ w, o.kind = .identify w → s.kindLines = some 0#2 ∧ s.dataLines = none) ∧
    (o.kind = .acknowledge → s.kindLines = some 1#2 ∧ s.dataLines = none) ∧
    (∀ b, o.kind = .burst b →
      s.kindLines = some (if b.direction = .input then 2#2 else 3#2) ∧
      (b.direction = .output → s.dataLines = b.driven) ∧
      (s.operationLaw o → (b.direction = .input ∨ ∃ a, o.phase = .released a) → s.dataLines = none)) ∧
    (s.dataLines = none → s.parityLines = none) ∧
    (∀ w, s.dataLines = some w → ∃ p, s.parityLines = some p ∧ parityGood w p = true) ∧
    (o.phase.answer = none → exec .replyRelease s = .next { s with op := some { o with phase := .strobed } })) ∧
  (replyOfLines 0#2 = none ∧ replyOfLines 1#2 = some .take ∧ replyOfLines 2#2 = some .stop ∧
    replyOfLines 3#2 = some .fault) ∧
  (∀ (s : State) (n : Slot) (i w : Nat) (data : Word) (parity : BitVec 2), s.releaseHeld = false →
    s.op = some ⟨.identify none, n, i, w, .strobed⟩ → parityGood data parity = true →
    exec (.replyTaken 1#2 data parity) s =
      .next { s with op := some ⟨.identify (some data), n, i + 1, s.timing.responseWindow, .begun⟩ }) ∧
  (∀ (s : State) (o : Operation) (a : Answer), s.op = some o → o.phase.answer = some a →
    exec .responseWindowExpiry s = .next s ∧
    (∀ lines data parity, exec (.replyTaken lines data parity) s = .next s) ∧
    ∀ t, s.pending = [] → step s = .next t → exec .replyRelease s = exec .replyRelease t) ∧
  ∀ (s t : State) (o : Operation) (lines : BitVec 2) (data : Word) (parity : BitVec 2),
    s.op = some o → o.phase = .strobed → lines ≠ 0#2 → s.pending = [] → s.releaseHeld = false →
    exec (.replyTaken lines data parity) s = .next t →
    ∃ u v, exec (.replyTaken lines data parity) { s with releaseHeld := true } = .next u ∧ step u = .next v ∧
      (∃ o' o'' a, u.op = some o' ∧ v.op = some o'' ∧ o'.phase = .answered a ∧ o''.phase = .released a ∧
        o'.slot = o.slot ∧ o''.slot = o.slot ∧ o'.index = o.index ∧ o''.index = o.index) ∧
      u.strobe = true ∧ u.dataLines = s.dataLines ∧ v.strobe = false ∧ v.dataLines = none ∧
      step v = .next { t with releaseHeld := true }

/-- A good identify with a card kind of 1..254 and a burst limit of 1..32 takes the slot ONLINE with the record of the two
words, count 0 and a SEATED report (R9, R10). The record's fields stand in the words where 10 section 10.6 has them. -/
def Obligations.GoodIdentifyTakesTheSlotOnline : Prop :=
  ∀ (s : State) (o : Operation) (w0 data : Word) (parity : BitVec 2),
    s.op = some o → o.kind = .identify (some w0) → o.phase = .strobed → s.releaseHeld = false →
    (s.slot o.slot).seat = .identifying →
    parityGood data parity = true →
    1 ≤ w0.toNat / 256 → w0.toNat / 256 ≤ 254 → 1 ≤ data.toNat / 1024 → data.toNat / 1024 ≤ 32 →
    ∃ i : Ident, i.identWord = w0 ∧ i.capabilityWord = data ∧
      i.cardKind.toNat = w0.toNat / 256 ∧ i.attention = w0.getLsbD 7 ∧ i.transfer = w0.getLsbD 6 ∧
      i.service.toNat = w0.toNat % 64 ∧ i.burstLimit.toNat = data.toNat / 1024 ∧ i.revision.toNat = data.toNat % 1024 ∧
      exec (.replyTaken 1#2 data parity) s =
        .next (react s (State.operationEnd { s with
          op := none
          slots := s.slots.set o.slot { s.slot o.slot with seat := .online, ident := some i, errorCount := 0 }
          events := insertSeat o.slot .seated s.events } o.kind o.slot))

/-- An identify that errs takes the slot to FAILED with its last error, no ident and an IDENT_FAILED report (R11): PROTOCOL
for STOP, CARD_FAULT, PARITY and TIMEOUT at the word's index (R30), BAD_IDENT at index 0 for a card kind of 0 or 255 and
else at index 1 for a burst limit of 0 or above 32 (R9). -/
def Obligations.FailedIdentifyTakesTheSlotToFailed : Prop :=
  ∀ (s : State) (o : Operation) (w : Option Word), s.op = some o → o.kind = .identify w →
    (s.slot o.slot).seat = .identifying →
    let failed := fun (kind : ErrorKind) (index : Nat) =>
      react s (State.operationEnd { s with
        op := none
        slots := s.slots.set o.slot { s.slot o.slot with
          seat := .failed, ident := none, lastError := some ⟨kind, .identify, index⟩ }
        events := insertSeat o.slot (.identFailed kind) s.events } o.kind o.slot)
    (o.phase = .begun ∨ o.phase = .strobed → exec .responseWindowExpiry s = .next (failed .timeout o.index)) ∧
    (o.phase = .strobed → s.releaseHeld = false → ∀ (data : Word) (parity : BitVec 2),
      exec (.replyTaken 2#2 data parity) s = .next (failed .protocol o.index) ∧
      exec (.replyTaken 3#2 data parity) s = .next (failed .cardFault o.index) ∧
      (parityGood data parity = false → exec (.replyTaken 1#2 data parity) s = .next (failed .parity o.index)) ∧
      ∀ w0 : Word, w = some w0 → parityGood data parity = true →
        ((w0.toNat / 256 = 0 ∨ w0.toNat / 256 = 255) →
          exec (.replyTaken 1#2 data parity) s = .next (failed .badIdent 0)) ∧
        (w0.toNat / 256 ≠ 0 → w0.toNat / 256 ≠ 255 → (data.toNat / 1024 = 0 ∨ 32 < data.toNat / 1024) →
          exec (.replyTaken 1#2 data parity) s = .next (failed .badIdent 1)))

/-- An ACKNOWLEDGE answered TAKE with good parity appends the slot, its service code and the vector to the attention queue
(R31, R64); answered STOP it leaves the queue as it was and records nothing (R65). -/
def Obligations.AcknowledgeDeliversItsVector : Prop :=
  ∀ (s : State) (o : Operation) (i : Ident) (data : Word) (parity : BitVec 2),
    s.op = some o → o.kind = .acknowledge → o.phase = .strobed → s.releaseHeld = false →
    (s.slot o.slot).ident = some i →
    (parityGood data parity = true →
      exec (.replyTaken 1#2 data parity) s =
        .next (react s (State.operationEnd { s with
          op := none, attention := s.attention ++ [⟨o.slot, i.service, data⟩] } .acknowledge o.slot))) ∧
    exec (.replyTaken 2#2 data parity) s =
      .next (react s (State.operationEnd { s with op := none } .acknowledge o.slot))

/-- An ACKNOWLEDGE error of an ONLINE or FENCED slot is recorded as its last error and raises its count, 15 staying 15
(R115, R116); where that brings an ONLINE slot to the threshold it is fenced, an ARMED context halted, and HALTED and then
FENCED reported (R120). -/
def Obligations.AcknowledgeErrorIsCounted : Prop :=
  ∀ (s : State) (o : Operation), s.op = some o → o.kind = .acknowledge →
    ((s.slot o.slot).seat = .online ∨ (s.slot o.slot).seat = .fenced) →
    let n := o.slot
    let erred := fun kind =>
      let r := { s.slot n with
        errorCount := if (s.slot n).errorCount < 15 then (s.slot n).errorCount + 1 else 15,
        lastError := some ⟨kind, .acknowledge, 0⟩ }
      if r.fencedAt s.control.threshold then
        react s (State.operationEnd { s with
          op := none
          slots := s.slots.set n { r with seat := .fenced }
          contexts := s.contexts.set n { s.context n with
            transfer := (s.context n).transfer.map fun x => x.haltIfArmed .fenced }
          events := insertSeat n (.fenced (some kind)) (s.events ++ s.haltEntries n .fenced) } .acknowledge n)
      else react s (State.operationEnd { s with op := none, slots := s.slots.set n r } .acknowledge n)
    (o.phase = .begun ∨ o.phase = .strobed → exec .responseWindowExpiry s = .next (erred .timeout)) ∧
    (o.phase = .strobed → s.releaseHeld = false → ∀ (data : Word) (parity : BitVec 2),
      exec (.replyTaken 3#2 data parity) s = .next (erred .cardFault) ∧
      (parityGood data parity = false → exec (.replyTaken 1#2 data parity) s = .next (erred .parity)))

/-- A burst word answered TAKE, short of the count (R99): a BURST_IN word with good parity is stored at offset moved (R34), a
BURST_OUT word leaves the store (R33), and moved rises by 1 in context and burst, all as the reply is taken. Where the
release is held that is all, and the word cycle stands in phase 4 (R25); otherwise, short of the burst size and with no end
asked for, the next word cycle begins, driving the word at the next offset in a BURST_OUT. That a release may be held
is log 12. -/
def Obligations.BurstWordIsMoved : Prop :=
  ∀ (s : State) (o : Operation) (b : Burst) (x : Transfer) (a : Nat) (data : Word) (parity : BitVec 2),
    s.op = some o → o.kind = .burst b → o.phase = .strobed → (s.context o.slot).transfer = some x → x.phase = .armed →
    x.address x.moved = some a → x.moved + 1 < x.count → (b.direction = .input → parityGood data parity = true) →
    let moved := fun op => ({ s with
      store := if b.direction = .input then s.store.write a data else s.store
      contexts := s.contexts.set o.slot { s.context o.slot with transfer := some { x with moved := x.moved + 1 } }
      op := some op } : State)
    (s.releaseHeld = true →
      exec (.replyTaken 1#2 data parity) s =
        .next (moved { o with kind := .burst { b with moved := b.moved + 1 },
                              phase := .answered ⟨.take, data, parityGood data parity⟩ })) ∧
    (s.releaseHeld = false → b.moved + 1 < b.size → b.boundary = false →
      exec (.replyTaken 1#2 data parity) s =
        .next (moved { o with
          kind := .burst { b with
            moved := b.moved + 1
            driven := if b.direction = .output then (x.address (x.moved + 1)).map s.store.read else none }
          index := o.index + 1, window := s.timing.responseWindow, phase := .begun }))

/-- The word that brings moved up to count (R100): as its reply is taken the context is DONE, a DONE entry with words equal to
the count joins the tail and the error count is 0. With the word cycle the burst ends, no fence follows, and an ABORT that
waited completes ALREADY_DONE with the count (R108). Where the release is held, that end comes with the second step on
an empty queue, the first of which is phase 5 (log 12). -/
def Obligations.LastWordMakesTheTransferDone : Prop :=
  ∀ (s : State) (o : Operation) (b : Burst) (x : Transfer) (a : Nat) (data : Word) (parity : BitVec 2),
    s.op = some o → o.kind = .burst b → o.phase = .strobed → (s.context o.slot).transfer = some x → x.phase = .armed →
    x.address x.moved = some a → x.moved + 1 = x.count → b.moved + 1 = b.size → 1 ≤ s.control.threshold →
    (b.direction = .output ∨ parityGood data parity = true) →
    let done := { s with
      store := if b.direction = .input then s.store.write a data else s.store
      slots := s.slots.set o.slot { s.slot o.slot with errorCount := 0 }
      contexts := s.contexts.set o.slot
        { s.context o.slot with transfer := some { x with moved := x.count, phase := .done } }
      events := s.events ++ [.transfer o.slot .done x.tag x.direction x.count]
      op := some { o with kind := .burst { b with moved := b.moved + 1 },
                          phase := .answered ⟨.take, data, parityGood data parity⟩ } }
    let ended := react s (State.operationEnd { done with
      op := none
      contexts := done.contexts.set o.slot { done.context o.slot with abortPending := false }
      cmd := if (s.context o.slot).abortPending then
               { s.cmd with executing := none, result := .alreadyDone, resultData := BitVec.ofNat 16 x.count }
             else s.cmd } o.kind o.slot)
    (s.releaseHeld = false → exec (.replyTaken 1#2 data parity) s = .next ended) ∧
    (s.releaseHeld = true →
      exec (.replyTaken 1#2 data parity) s = .next done ∧
      (s.pending = [] → ∃ v, step done = .next v ∧ step v = .next ended))

/-- A burst that ends without error: by a STOP, to any of its words, or short of the count by a word that reaches the burst
size or the boundary asked for (R35, R36). The context is settled as `State.burstSettled` says (R101, R108, R122), THRESHOLD
being the detail of a fence, and the arbiter takes the end. A burst whose reply has been taken ends so with the end of its
release, which is the step on an empty queue from phase 5 (log 12), also where the boundary has been asked for in the release (R36). -/
def Obligations.BurstEndsWithoutError : Prop :=
  ∀ (s : State) (o : Operation) (b : Burst) (x : Transfer) (data : Word) (parity : BitVec 2) (good : Bool),
    s.op = some o → o.kind = .burst b → (s.context o.slot).transfer = some x → x.phase = .armed →
    let ended := react s ((State.burstSettled { s with op := none } o.slot x none).operationEnd o.kind o.slot)
    (o.phase = .strobed → s.releaseHeld = false →
      exec (.replyTaken 2#2 data parity) s = .next ended ∧
      ∀ a, x.address x.moved = some a → x.moved + 1 < x.count → (b.moved + 1 = b.size ∨ b.boundary = true) →
        (b.direction = .output ∨ parityGood data parity = true) →
        let y := { x with moved := x.moved + 1 }
        exec (.replyTaken 1#2 data parity) s =
          .next (react s ((State.burstSettled { s with
            op := none
            store := if b.direction = .input then s.store.write a data else s.store
            contexts := s.contexts.set o.slot { s.context o.slot with transfer := some y } } o.slot y none).operationEnd
              o.kind o.slot))) ∧
    (s.pending = [] →
      (o.phase = .released ⟨.stop, data, good⟩ → step s = .next ended) ∧
      (o.phase = .released ⟨.take, data, good⟩ → (b.moved = b.size ∨ b.boundary = true) →
        (b.direction = .output ∨ good = true) → step s = .next ended))

/-- A burst error of an ONLINE slot (R27, R28): the word is not moved, and as the word cycle ends the error is recorded at the
burst's word index and counted (R115, R116), and the context is settled as `State.burstSettled` says, the error's kind being
the detail of a fence (R120, R108). PARITY arises in a BURST_IN alone (R41). A burst whose reply has been taken errs so with
the end of its release, which is the step on an empty queue from phase 5 (log 12), also where an ABORT or a threshold write
has come in the release (R36). -/
def Obligations.BurstErrorIsCounted : Prop :=
  ∀ (s : State) (o : Operation) (b : Burst) (x : Transfer) (data : Word) (parity : BitVec 2) (good : Bool),
    s.op = some o → o.kind = .burst b →
    (s.context o.slot).transfer = some x → x.phase = .armed → (s.slot o.slot).seat = .online →
    let erred := fun kind =>
      react s ((State.burstSettled { s with
        op := none
        slots := s.slots.set o.slot { s.slot o.slot with
          errorCount := if (s.slot o.slot).errorCount < 15 then (s.slot o.slot).errorCount + 1 else 15,
          lastError := some ⟨kind, .burst, o.index⟩ } } o.slot x (some kind)).operationEnd o.kind o.slot)
    (o.phase = .begun ∨ o.phase = .strobed → exec .responseWindowExpiry s = .next (erred .timeout)) ∧
    (o.phase = .strobed → s.releaseHeld = false →
      exec (.replyTaken 3#2 data parity) s = .next (erred .cardFault) ∧
      (b.direction = .input → parityGood data parity = false →
        exec (.replyTaken 1#2 data parity) s = .next (erred .parity))) ∧
    (s.pending = [] →
      (o.phase = .released ⟨.fault, data, good⟩ → step s = .next (erred .cardFault)) ∧
      (o.phase = .released ⟨.take, data, false⟩ → b.direction = .input → step s = .next (erred .parity)))

/-- The part takes a sampled word of any parity lines exactly where each byte and its line together hold an odd number of
ones, which is where the lines are those it drives itself (R28). -/
def Obligations.ParityIsOddInEachByte : Prop :=
  ∀ (w : Word) (p : BitVec 2),
    (parityGood w p = true ↔
      ((List.range 8).countP (fun i => w.getLsbD i) + p.toNat % 2) % 2 = 1 ∧
      ((List.range 8).countP (fun i => w.getLsbD (i + 8)) + p.toNat / 2) % 2 = 1) ∧
    (parityGood w p = true ↔ p = parityOf w)

/-! ## Host accesses -/

/-- A CONTROL write sets its five fields as taken (R144). It fences every ONLINE slot whose count is at or above the new
threshold and whose burst is not in flight, in ascending order of slot, each slot's HALTED before its FENCED with detail
THRESHOLD; the slot of a burst in flight at or above the threshold stays ONLINE and its burst is asked to end at the next
word boundary (R121, R36); then the arbiter chooses if the event calls for it. The premise leaves out a burst of such a slot
whose strobe is not yet driven: `ThresholdWriteEndsABurstAtTheBoundary` has it where that slot alone is at the threshold. -/
def Obligations.ControlWriteSetsFieldsAndFences : Prop :=
  ∀ (s : State) (w : Word), s.takesAccess →
    let c := takenControl w
    let reached := fun n : Slot => (s.slot n).fencedAt c.threshold
    let fences := fun n : Slot => reached n && !s.burstInFlight n
    (∀ o ∈ s.op, s.burstInFlight o.slot = true → reached o.slot = true → o.phase ≠ .begun) →
    ∃ u, exec (.controlWrite w) s = .next (react s u) ∧
      u = { s with control := c, op := u.op, slots := u.slots, contexts := u.contexts, events := u.events } ∧
      u.op = (s.op.map fun o =>
        match o.kind with
        | .burst b => if reached o.slot then { o with kind := .burst { b with boundary := true } } else o
        | _ => o) ∧
      (∀ n : Slot, u.slot n = if fences n then { s.slot n with seat := .fenced } else s.slot n) ∧
      (∀ n : Slot, u.context n =
        if fences n then
          { s.context n with transfer := (s.context n).transfer.map fun x => x.haltIfArmed .fenced }
        else s.context n) ∧
      u.events = allSlots.foldl (fun es n =>
        if fences n then insertSeat n (.fenced none) (es ++ s.haltEntries n .fenced) else es) s.events

/-- A CONTROL write whose threshold is at or below the count of one ONLINE slot, its burst in flight (R121, R36): from phase 3
of the word cycle on, its release included, the burst is asked to end at the next word boundary and the slot stays ONLINE;
before the strobe the burst ends at once with BOUNDARY, the slot is fenced with THRESHOLD and the arbiter takes the end. -/
def Obligations.ThresholdWriteEndsABurstAtTheBoundary : Prop :=
  ∀ (s : State) (w : Word) (o : Operation) (b : Burst) (x : Transfer), s.takesAccess →
    s.op = some o → o.kind = .burst b → b.boundary = false → (s.context o.slot).transfer = some x → x.phase = .armed →
    (∀ n : Slot, (s.slot n).fencedAt (takenControl w).threshold = decide (n = o.slot)) →
    (o.phase ≠ .begun →
      exec (.controlWrite w) s =
        .next (react s { s with
          control := takenControl w, op := some { o with kind := .burst { b with boundary := true } } })) ∧
    (o.phase = .begun →
      exec (.controlWrite w) s =
        .next (react s ((State.burstSettled { s with control := takenControl w, op := none } o.slot x none).operationEnd
          o.kind o.slot)))

/-- TIMING, STATUS, STORE_POINTER and SLOT_SELECT writes set their fields as taken from the word and change nothing else:
a 0 in either field of TIMING is taken as 1 (R145), ones in bits 0 and 1 of STATUS clear the sticky flags (R147), STORE_POINTER
takes slot and offset (R86), SLOT_SELECT its value modulo 8 (R143). -/
def Obligations.PlainWritesSetTheirFields : Prop :=
  ∀ (s : State) (w : Word), s.takesAccess →
    exec (.timingWrite w) s =
      .next { s with timing :=
        { settleTime := if w.toNat / 256 = 0 then 1 else w.toNat / 256,
          responseWindow := if w.toNat % 64 = 0 then 1 else w.toNat % 64 } } ∧
    exec (.statusWrite w) s =
      .next { s with overrun := if w.toNat % 2 = 1 then false else s.overrun,
                     windowFault := if w.toNat / 2 % 2 = 1 then false else s.windowFault } ∧
    exec (.storePointerWrite w) s =
      .next { s with pointer := { slot := Fin.ofNat 8 (w.toNat / 4096), offset := BitVec.ofNat 12 w.toNat } } ∧
    exec (.slotSelectWrite w) s = .next { s with slotSelect := Fin.ofNat 8 w.toNat }

/-- REGISTER_WRITE sets OPA at 04h and OPB at 05h (R151); at a read-only register or an empty address it is dropped, changes
nothing and sets no flag (R139, R140). -/
def Obligations.RegisterWriteSetsOperandsOrIsDropped : Prop :=
  ∀ (s : State) (a : BitVec 5) (w : Word), s.takesAccess →
    exec (.registerWrite 0x04#5 w) s = .next { s with cmd := { s.cmd with opa := w } } ∧
    exec (.registerWrite 0x05#5 w) s = .next { s with cmd := { s.cmd with opb := w } } ∧
    ((6 ≤ a.toNat ∧ a.toNat ≤ 13) ∨ a.toNat = 16 ∨ 18 ≤ a.toNat → exec (.registerWrite a w) s = .next s)

/-- STORE_DATA accesses. A read of a LOADING, DONE or HALTED context at a valid offset presents the store word at that offset
(R87), a write to a LOADING context stores its word there (R88), and either advances the offset by 1. Any other is refused (R89):
no context, an ARMED context, an offset that is not valid, or a write outside LOADING; a refused read presents 0, a refused write is
dropped, WINDOW_FAULT is set, and the pointer and the store stay. -/
def Obligations.StoreWindowMovesAWordOrRefuses : Prop :=
  ∀ (s : State) (w : Word), s.takesAccess →
    let context := (s.context s.pointer.slot).transfer
    let advanced : StorePointer := { s.pointer with offset := s.pointer.offset + 1#12 }
    (∀ x a, context = some x → x.address s.pointer.offset.toNat = some a →
      (x.phase ≠ .armed →
        exec .storeDataRead s = .next { s with readData := some (s.store.read a), pointer := advanced }) ∧
      (x.phase = .loading →
        exec (.storeDataWrite w) s = .next { s with store := s.store.write a w, pointer := advanced })) ∧
    (context = none ∨ (∃ x, context = some x ∧ (x.phase = .armed ∨ x.address s.pointer.offset.toNat = none)) →
      exec .storeDataRead s = .next { s with readData := some 0#16, windowFault := true }) ∧
    (context = none ∨ (∃ x, context = some x ∧ (x.phase ≠ .loading ∨ x.address s.pointer.offset.toNat = none)) →
      exec (.storeDataWrite w) s = .next { s with windowFault := true })

/-- Context offsets (R84): offset o of a context of n pages is valid exactly when o < 32 n and lies in page L[o div 32], word
o mod 32; with every page on one list (R79), no two offsets of open contexts, of one slot or of two, name one store word, and
none names a word of a free page. -/
def Obligations.OffsetsNameWordsOfTheirOwnPages : Prop :=
  (∀ (x : Transfer) (o : Nat),
    (x.address o ≠ none ↔ o < 32 * x.pages.length) ∧
    ∀ p, x.pages[o / 32]? = some p → x.address o = some (p.val * 32 + o % 32)) ∧
  ∀ (s : State) (n m : Slot) (x y : Transfer) (o o' a : Nat), s.pageLaw →
    (s.context n).transfer = some x → (s.context m).transfer = some y →
    x.address o = some a → y.address o' = some a → n = m ∧ o = o' ∧ ∀ p ∈ s.freePages, p.val ≠ a / 32

/-! ## The command unit -/

/-- A COMMAND word that names none of the fourteen commands completes BAD_OPERAND with RESULT_DATA 0, is read back in COMMAND
and changes nothing else (R148, R157). -/
def Obligations.UnknownCommandCompletesBadOperand : Prop :=
  ∀ (s : State) (w : Word), s.takesCommand → w ∉ commandWords →
    exec (.unknownCommand w) s = .next (s.completed w .badOperand 0#16)

/-- A write that is not taken: while RSTIN# is active every write is dropped; during STARTING, or while EXECUTING, a
COMMAND write is dropped and sets COMMAND_OVERRUN and nothing else (R141, R150); during STARTING every other write is dropped
and sets no flag (R141). -/
def Obligations.WritesAreTurnedAway : Prop :=
  ∀ (s : State) (i : Instr) (w : Word), i ∈ hostCommands ∨ i = .unknownCommand w →
    (s.lines.rstin = true → exec i s = .next s) ∧
    (s.lines.rstin = false → (s.starting = true ∨ s.cmd.executing ≠ none) → exec i s = .next { s with overrun := true }) ∧
    (¬s.takesAccess →
      exec (.controlWrite w) s = .next s ∧ exec (.timingWrite w) s = .next s ∧ exec (.statusWrite w) s = .next s ∧
      exec (.storePointerWrite w) s = .next s ∧ exec (.storeDataWrite w) s = .next s ∧
      exec (.slotSelectWrite w) s = .next s ∧ exec (.registerWrite 0x04#5 w) s = .next s ∧
      exec (.registerWrite 0x05#5 w) s = .next s ∧ exec .storeDataRead s = .next { s with readData := some 0#16 })

/-- SET MODE stores the mode named in OPA bits 5–4 whatever the seat state and completes OK; code 3 completes BAD_OPERAND
(R17, R157). -/
def Obligations.SetModeStoresTheMode : Prop :=
  ∀ s : State, s.takesCommand →
    let code := s.cmd.opa.toNat / 16 % 4
    (∀ m : Mode, m.code.toNat = code →
      exec .setMode s = .next (react s (State.completed { s with
        slots := s.slots.set s.named { s.slot s.named with mode := m } } 0x0001#16 .ok 0#16))) ∧
    (code = 3 → exec .setMode s = .next (s.completed 0x0001#16 .badOperand 0#16))

/-- REIDENTIFY takes a FAILED slot to IDENTIFY_WAIT (R18), UNFENCE a FENCED slot to IDENTIFY_WAIT with count 0 (R125); each
completes OK, an event at which the arbiter chooses, and each completes WRONG_STATE in any other seat state. -/
def Obligations.ReidentifyAndUnfenceReturnToIdentification : Prop :=
  ∀ s : State, s.takesCommand →
    let n := s.named
    ((s.slot n).seat = .failed →
      exec .reidentify s = .next (react s (State.completed { s with
        slots := s.slots.set n { s.slot n with seat := .identifyWait } } 0x0005#16 .ok 0#16))) ∧
    ((s.slot n).seat ≠ .failed → exec .reidentify s = .next (s.completed 0x0005#16 .wrongState 0#16)) ∧
    ((s.slot n).seat = .fenced →
      exec .unfence s = .next (react s (State.completed { s with
        slots := s.slots.set n { s.slot n with seat := .identifyWait, errorCount := 0 } } 0x0006#16 .ok 0#16))) ∧
    ((s.slot n).seat ≠ .fenced → exec .unfence s = .next (s.completed 0x0006#16 .wrongState 0#16))

/-- SET ORDER replaces the chain order list with the eight slot numbers of OPA and OPB if no number appears twice, and ORDER_LO
and ORDER_HI then read the operands with bits 3, 7, 11 and 15 cleared; otherwise it completes BAD_OPERAND and the list is kept
(R44, R158). -/
def Obligations.SetOrderTakesAPermutation : Prop :=
  ∀ s : State, s.takesCommand →
    let order := carriedOrder s.cmd.opa s.cmd.opb
    let replaced := State.completed { s with arb := { s.arb with order := order } } 0x0002#16 .ok 0#16
    ((∀ p q : Position, order[p] = order[q] → p = q) →
      exec .setOrder s = .next replaced ∧
      replaced.readRegister 0x19#5 = s.cmd.opa &&& 0x7777#16 ∧ replaced.readRegister 0x1A#5 = s.cmd.opb &&& 0x7777#16) ∧
    ((∃ p q : Position, p ≠ q ∧ order[p] = order[q]) →
      exec .setOrder s = .next (s.completed 0x0002#16 .badOperand 0#16))

/-- HOLD in RUNNING takes the hold state to HELD at once and completes OK where no operation is in flight, and to HOLDING with
the command EXECUTING where one is; in HELD it completes WRONG_STATE (R55). -/
def Obligations.HoldWaitsOnAnOperation : Prop :=
  ∀ s : State, s.takesCommand →
    (s.arb.hold = .running → s.op = none →
      exec .hold s = .next (State.completed { s with arb := { s.arb with hold := .held } } 0x0003#16 .ok 0#16)) ∧
    (s.arb.hold = .running → s.op ≠ none →
      exec .hold s = .next (State.waiting { s with arb := { s.arb with hold := .holding } } 0x0003#16)) ∧
    (s.arb.hold = .held → exec .hold s = .next (s.completed 0x0003#16 .wrongState 0#16))

/-- RESUME in HELD takes the hold state to RUNNING, completes OK and makes a choice, whatever claims stand; in RUNNING it
completes WRONG_STATE and changes nothing (R57). -/
def Obligations.ResumeMakesAChoice : Prop :=
  ∀ s : State, s.takesCommand →
    let resumed := State.completed { s with arb := { s.arb with hold := .running } } 0x0004#16 .ok 0#16
    (s.arb.hold = .held → s.op = none → s.clear = false →
      (∀ c, resumed.choice = some c → exec .resume s = .next (resumed.start c)) ∧
      (resumed.choice = none → exec .resume s = .next resumed)) ∧
    (s.arb.hold = .running → exec .resume s = .next (s.completed 0x0004#16 .wrongState 0#16))

/-- TAKE ATTENTION removes the head entry where OPA names its slot, puts the slot into the in-service set and returns the
vector; another head is STALE and an empty queue WRONG_STATE, with nothing changed (R68). -/
def Obligations.TakeAttentionTakesTheHeadNamed : Prop :=
  ∀ s : State, s.takesCommand →
    (s.attention = [] → exec .takeAttention s = .next (s.completed 0x0008#16 .wrongState 0#16)) ∧
    ∀ (e : AttentionEntry) (rest : List AttentionEntry), s.attention = e :: rest →
      (e.slot ≠ s.named → exec .takeAttention s = .next (s.completed 0x0008#16 .stale 0#16)) ∧
      (e.slot = s.named →
        exec .takeAttention s = .next (react s (State.completed { s with
          attention := rest, inService := s.inService.set e.slot true } 0x0008#16 .ok e.vector)))

/-- RETIRE removes a slot from the in-service set, which may make it attention-eligible; a slot not in the set completes
WRONG_STATE; the attention queue stays (R70, R71). -/
def Obligations.RetireTakesASlotOutOfService : Prop :=
  ∀ s : State, s.takesCommand →
    (s.inService[s.named] = true →
      exec .retire s = .next (react s (State.completed { s with
        inService := s.inService.set s.named false } 0x0009#16 .ok 0#16))) ∧
    (s.inService[s.named] = false → exec .retire s = .next (s.completed 0x0009#16 .wrongState 0#16))

/-- OPEN (R94, R80, R81), in the order of its checks: a context that is not CLOSED is WRONG_STATE, a count of 0 or above 2048
BAD_OPERAND, too few free pages NO_SPACE; otherwise the first ceil(count / 32) free pages become the page list of a LOADING
context with the direction, tag and count of the operands and moved 0, and RESULT_DATA is the first of them. -/
def Obligations.OpenAllocatesPages : Prop :=
  ∀ s : State, s.takesCommand →
    let n := s.named
    let count := s.cmd.opb.toNat
    let need := (count + 31) / 32
    ((s.context n).transfer ≠ none → exec .openContext s = .next (s.completed 0x0010#16 .wrongState 0#16)) ∧
    ((s.context n).transfer = none → (count = 0 ∨ 2048 < count) →
      exec .openContext s = .next (s.completed 0x0010#16 .badOperand 0#16)) ∧
    ((s.context n).transfer = none → 1 ≤ count → count ≤ 2048 → s.freePages.length < need →
      exec .openContext s = .next (s.completed 0x0010#16 .noSpace 0#16)) ∧
    ((s.context n).transfer = none → 1 ≤ count → count ≤ 2048 → need ≤ s.freePages.length →
      ∀ first rest, s.freePages = first :: rest →
        exec .openContext s = .next (State.completed { s with
          freePages := s.freePages.drop need
          contexts := s.contexts.set n
            { abortPending := false,
              transfer := some
                { phase := .loading, direction := if s.cmd.opa.toNat / 8 % 2 = 1 then .output else .input,
                  count := count, moved := 0, tag := BitVec.ofNat 8 (s.cmd.opa.toNat / 256),
                  pages := s.freePages.take need } } } 0x0010#16 .ok (BitVec.ofNat 16 first.val)))

/-- ARM takes a LOADING context to ARMED where its slot is ONLINE with a transfer-capable ident; NOT_READY where it is not,
WRONG_STATE for a context that is not LOADING, checked first (R96). -/
def Obligations.ArmOpensAContextToItsCard : Prop :=
  ∀ s : State, s.takesCommand →
    let n := s.named
    let capable := (s.slot n).seat = .online ∧ ∃ i, (s.slot n).ident = some i ∧ i.transfer = true
    ((∀ x, (s.context n).transfer = some x → x.phase ≠ .loading) →
      exec .arm s = .next (s.completed 0x0011#16 .wrongState 0#16)) ∧
    ∀ x, (s.context n).transfer = some x → x.phase = .loading →
      (¬capable → exec .arm s = .next (s.completed 0x0011#16 .notReady 0#16)) ∧
      (capable → exec .arm s = .next (react s (State.completed { s with
        contexts := s.contexts.set n { s.context n with transfer := some { x with phase := .armed } } }
          0x0011#16 .ok 0#16)))

/-- ABORT (R106, R107, R36): WRONG_STATE unless the context is ARMED; with no burst of the slot in flight the context is
HALTED (ABORTED) at once, OK with moved; from phase 3 of a burst's word cycle on, its release included, abort pending and
boundary requested are set and the command stays EXECUTING; before the strobe the burst ends at once, and for a slot below
the threshold the context is HALTED (ABORTED) and the command completes OK with moved (R108). -/
def Obligations.AbortHaltsOrWaits : Prop :=
  ∀ s : State, s.takesCommand →
    let n := s.named
    ((∀ x, (s.context n).transfer = some x → x.phase ≠ .armed) →
      exec .abort s = .next (s.completed 0x0012#16 .wrongState 0#16)) ∧
    ∀ x, (s.context n).transfer = some x → x.phase = .armed →
      (s.burstInFlight n = false →
        exec .abort s = .next (react s (State.completed { s with
          contexts := s.contexts.set n { s.context n with transfer := some { x with phase := .halted .aborted } }
          events := s.events ++ [haltedEntry n x .aborted] } 0x0012#16 .ok (BitVec.ofNat 16 x.moved)))) ∧
      ∀ o b, s.op = some o → o.kind = .burst b → o.slot = n →
        (o.phase ≠ .begun →
          exec .abort s = .next (State.waiting { s with
            contexts := s.contexts.set n { s.context n with abortPending := true }
            op := some { o with kind := .burst { b with boundary := true } } } 0x0012#16)) ∧
        (o.phase = .begun → b.boundary = false → (s.slot n).fencedAt s.control.threshold = false →
          exec .abort s = .next (react s (State.operationEnd (State.completed { s with
            op := none
            contexts := s.contexts.set n { transfer := some { x with phase := .halted .aborted }, abortPending := false }
            events := s.events ++ [haltedEntry n x .aborted] } 0x0012#16 .ok (BitVec.ofNat 16 x.moved)) o.kind n)))

/-- CLOSE (R111, R82): WRONG_STATE for a CLOSED or ARMED context; EVENT_PENDING for a DONE or HALTED context whose
TRANSFER-class entry stands anywhere in the event queue; otherwise the context is CLOSED and its pages join the tail of the free
page list in their order. -/
def Obligations.CloseReturnsPages : Prop :=
  ∀ s : State, s.takesCommand →
    let n := s.named
    let queued := ∃ ending tag direction words, Event.transfer n ending tag direction words ∈ s.events
    ((∀ x, (s.context n).transfer = some x → x.phase = .armed) →
      exec .close s = .next (s.completed 0x0013#16 .wrongState 0#16)) ∧
    ∀ x, (s.context n).transfer = some x → x.phase ≠ .armed →
      (x.phase ≠ .loading → queued → exec .close s = .next (s.completed 0x0013#16 .eventPending 0#16)) ∧
      ((x.phase = .loading ∨ ¬queued) →
        exec .close s = .next (State.completed { s with
          freePages := s.freePages ++ x.pages
          contexts := s.contexts.set n { s.context n with transfer := none } } 0x0013#16 .ok 0#16))

/-- NEXT EVENT removes the head where OPA carries its slot and its changes count, 0 for a TRANSFER-class head; another head is
STALE and an empty queue WRONG_STATE, with nothing changed (R135). -/
def Obligations.NextEventRemovesTheHeadNamed : Prop :=
  ∀ s : State, s.takesCommand →
    let changes := s.cmd.opa.toNat / 256 % 16
    let removed := fun rest => State.completed { s with events := rest } 0x0018#16 .ok 0#16
    let stale := s.completed 0x0018#16 .stale 0#16
    (s.events = [] → exec .nextEvent s = .next (s.completed 0x0018#16 .wrongState 0#16)) ∧
    (∀ m c k rest, s.events = .seat m c k :: rest →
      exec .nextEvent s = .next (if m = s.named ∧ k = changes then removed rest else stale)) ∧
    (∀ m e tag d w rest, s.events = .transfer m e tag d w :: rest →
      exec .nextEvent s = .next (if m = s.named ∧ changes = 0 then removed rest else stale))

/-- BUS RESET (R152): the command is EXECUTING, the operation in flight is gone, CLEAR is driven; every slot past SETTLING is
in IDENTIFY_WAIT with count 0 (R19), every ARMED context HALTED (BUS_RESET) with its HALTED entry in ascending order of slot
(R105), the attention structures empty (R73), origin 0 and turn ATTENTION (R59); everything else is kept. A reply that has
been taken settles its word first (R38): that its word cycle then ends before the cut, so that all of this is of the state in
which it has ended and a fence asked for by a threshold write has come with that end, is the model's choice (log 12). No ABORT
waits while a command can be taken (`State.commandLaw`). -/
def Obligations.BusResetTakesEveryBlock : Prop :=
  ∀ s : State, s.takesCommand → s.arb.hold ≠ .holding → (∀ n : Slot, (s.context n).abortPending = false) →
    let f := s.finishWord
    ((∀ o, s.op = some o → o.phase.answer = none) → f = s) ∧
    ∃ t, exec .busReset s = .next t ∧
      t = State.waiting { f with
        op := none, clear := true, slots := t.slots, contexts := t.contexts
        arb := { f.arb with origin := 0, turn := .attention }
        attention := [], inService := t.inService
        events := f.events ++ allSlots.flatMap fun n => f.haltEntries n .busReset } 0x003C#16 ∧
      (∀ n : Slot, t.inService[n] = false) ∧
      (∀ n : Slot, t.slot n =
        if (f.slot n).seat.pastSettling then { f.slot n with seat := .identifyWait, errorCount := 0 } else f.slot n) ∧
      ∀ n : Slot, t.context n =
        { f.context n with transfer := (f.context n).transfer.map fun x => x.haltIfArmed .busReset }

/-! ## What the host reads -/

/-- The registers of the window, field by field (R146, R156, 10 sections 10.2 and 10.3), in states whose fields are in their
ranges: STATUS in STARTING as afterwards; after STARTING CONTROL, TIMING, COMMAND, OPA, OPB, STORE_POINTER and SLOT_SELECT as
taken, RESULT and RESULT_DATA, the length of the free page list, the chain order list in ORDER_LO and ORDER_HI (R43, R158),
PART_ID and the empty addresses; at STORE_DATA the word at the pointer's offset of an open context that is not ARMED, and 0
where the access would be refused (R87, R89); 0 at every address while RSTIN# is active, and at every address but STATUS during
STARTING (R141). The word taken is on HD15–HD0 exactly while HCS# and HRD# are active and HWR# is not (R139); that HWR#
asserted during a read stops HD, and that HRD# left active by a joint assertion drives it, are the model's choices (log 26). -/
def Obligations.WindowRegistersShowTheirFields : Prop :=
  (∀ (l : HostLines) (taken : Word),
    l.hd taken = if l.hcs = true ∧ l.hrd = true ∧ l.hwr = false then some taken else none) ∧
  ∀ s : State,
    (∀ a, s.lines.rstin = true → s.readRegister a = 0#16) ∧
    (∀ a, s.lines.rstin = false → s.starting = true → a ≠ 0x00#5 → s.readRegister a = 0#16) ∧
    (s.lines.rstin = false →
      let w := s.readRegister 0x00#5
      w.getLsbD 15 = s.starting ∧ w.getLsbD 14 = s.cmd.executing.isSome ∧
      w.toNat / 4096 % 4 = (match s.arb.hold with
        | .running => 0
        | .holding => 1
        | .held => 2) ∧
      w.getLsbD 11 = s.clear ∧ (w.getLsbD 10 = true ↔ s.attention ≠ []) ∧ (w.getLsbD 9 = true ↔ s.events ≠ []) ∧
      (w.getLsbD 8 = true ↔
        (s.control.attentionEnable = true ∧ s.attention ≠ []) ∨ (s.control.eventEnable = true ∧ s.events ≠ [])) ∧
      w.toNat / 4 % 64 = 0 ∧ w.getLsbD 1 = s.windowFault ∧ w.getLsbD 0 = s.overrun) ∧
    (s.takesAccess →
      let data := s.readRegister 0x0F#5
      let transfer := (s.context s.pointer.slot).transfer
      (∀ x page, transfer = some x → x.phase ≠ .armed → x.pages[s.pointer.offset.toNat / 32]? = some page →
        data = s.store.read (page.val * 32 + s.pointer.offset.toNat % 32)) ∧
      (∀ x, transfer = some x → (x.phase = .armed ∨ 32 * x.pages.length ≤ s.pointer.offset.toNat) → data = 0#16) ∧
      (transfer = none → data = 0#16) ∧
      ∀ p : Position,
        (s.readRegister (if p.val < 4 then 0x19#5 else 0x1A#5)).toNat / 16 ^ (p.val % 4) % 16 = s.arb.order[p].val) ∧
    (s.takesAccess → s.registerLaw → s.freePages.length ≤ 64 →
      let control := s.readRegister 0x01#5
      control.getLsbD 15 = s.control.attentionEnable ∧ control.getLsbD 14 = s.control.eventEnable ∧
      (control.getLsbD 13 = true ↔ s.control.discipline = .rotating) ∧ control.getLsbD 12 = false ∧
      control.toNat / 256 % 16 = s.control.threshold ∧ control.toNat % 256 = s.control.depth ∧
      (s.readRegister 0x02#5).toNat = 256 * s.timing.settleTime + s.timing.responseWindow ∧
      s.readRegister 0x03#5 = s.cmd.code ∧ s.readRegister 0x04#5 = s.cmd.opa ∧ s.readRegister 0x05#5 = s.cmd.opb ∧
      (s.readRegister 0x06#5).toNat = resultCode s.cmd.result ∧ s.readRegister 0x07#5 = s.cmd.resultData ∧
      (s.readRegister 0x0E#5).toNat = 4096 * s.pointer.slot.val + s.pointer.offset.toNat ∧
      (s.readRegister 0x10#5).toNat = s.freePages.length ∧ (s.readRegister 0x11#5).toNat = s.slotSelect.val ∧
      s.readRegister 0x1B#5 = 0xB182#16 ∧ ∀ a : BitVec 5, 0x1C ≤ a.toNat → s.readRegister a = 0#16)

/-- The heads of the two queues and the in-service set, field by field (R66, R67, R134, R160, 10 sections 10.4 and 10.5).
EVENT_HEAD: the valid flag is set exactly when the queue is not empty, word 0 then carries the head's class, kind, slot and
changes, word 1 the length modulo 16, the direction, the detail and the tag, word 2 the words, an absent field reading 0.
ATTN_HEAD carries the head's slot, service code and vector and the length. An empty queue reads 0 in every word. IN_SERVICE
has a bit for each slot. -/
def Obligations.QueueHeadsShowTheHeads : Prop :=
  ∀ s : State, s.takesAccess →
    let w0 := s.readRegister 0x0B#5
    let w1 := s.readRegister 0x0C#5
    let w2 := s.readRegister 0x0D#5
    let a0 := s.readRegister 0x08#5
    (s.events = [] → w0 = 0#16 ∧ w1 = 0#16 ∧ w2 = 0#16) ∧
    (∀ e rest, s.events = e :: rest →
      w0.getLsbD 15 = true ∧ w0.toNat / 256 % 8 = e.slot.val ∧ w0.toNat / 16 % 16 = 0 ∧
      w1.toNat / 4096 = s.events.length % 16 ∧
      (∀ n c k, e = .seat n c k → k ≤ 15 →
        w0.getLsbD 14 = false ∧ w0.toNat / 2048 % 8 = seatKindCode c ∧ w0.toNat % 16 = k ∧
        w1.toNat / 256 % 16 = seatDetailCode c ∧ w1.toNat % 256 = 0 ∧ w2 = 0#16) ∧
      (∀ n ending tag d words, e = .transfer n ending tag d words → words ≤ 2048 →
        w0.getLsbD 14 = true ∧ w0.toNat % 16 = 0 ∧ w1.toNat % 256 = tag.toNat ∧ w2.toNat = words ∧
        (w1.getLsbD 11 = true ↔ d = .output) ∧
        (ending = .done → w0.toNat / 2048 % 8 = 5 ∧ w1.toNat / 256 % 8 = 0) ∧
        ∀ reason, ending = .halted reason →
          w0.toNat / 2048 % 8 = 6 ∧ w1.toNat / 256 % 8 = reasonCode reason)) ∧
    (s.attention = [] → a0 = 0#16 ∧ s.readRegister 0x09#5 = 0#16) ∧
    (∀ e rest, s.attention = e :: rest → s.attention.length ≤ 8 →
      a0.getLsbD 15 = true ∧ a0.toNat / 4096 % 8 = e.slot.val ∧ a0.toNat / 256 % 16 = s.attention.length ∧
      a0.toNat % 256 = e.service.toNat ∧ s.readRegister 0x09#5 = e.vector) ∧
    (s.readRegister 0x0A#5).toNat < 256 ∧ ∀ n : Slot, (s.readRegister 0x0A#5).getLsbD n.val = s.inService[n]

/-- The views and the codes. A COMMAND word names a command exactly when it is that command's whole code (R157). SLOT_VIEW
shows the selected slot's record, the ident record of two card words as those words, and the line levels present at the read,
also where the part has yet to act on their change (R20, R159, 10 sections 10.4 and 10.6); CONTEXT_VIEW its context (R113). An
absent field reads 0. -/
def Obligations.ViewsAndCodesLoseNothing : Prop :=
  (∀ (w : Word) (c : Command), commandOf w = some c ↔ w = c.code) ∧
  ∀ s : State, s.takesAccess →
    let n := s.slotSelect
    let r := s.slot n
    let v3 := s.readRegister 0x15#5
    let c0 := s.readRegister 0x16#5
    (∀ a, s.readRegister a = s.readRegisterMeeting s.lines a) ∧
    (∀ levels : Lines,
      let v0 := s.readRegisterMeeting levels 0x12#5
      v0.toNat / 8192 = seatCode r.seat ∧ v0.toNat / 2048 % 4 = modeCode r.mode ∧
      v0.toNat / 512 % 4 = (if r.seat = .online then modeCode r.mode else modeCode .pass) ∧
      v0.getLsbD 8 = levels.seat[n] ∧ v0.getLsbD 7 = levels.areq[n] ∧ v0.getLsbD 6 = levels.treq[n] ∧
      v0.getLsbD 5 = r.ident.isSome ∧ v0.getLsbD 4 = false ∧ (r.errorCount ≤ 15 → v0.toNat % 16 = r.errorCount)) ∧
    (r.ident = none → s.readRegister 0x13#5 = 0#16 ∧ s.readRegister 0x14#5 = 0#16) ∧
    (∀ w0 w1, r.ident = some (identOfWords w0 w1) → s.readRegister 0x13#5 = w0 ∧ s.readRegister 0x14#5 = w1) ∧
    (∀ e, r.lastError = some e → e.index ≤ 31 →
      v3.getLsbD 15 = true ∧ v3.toNat / 4096 % 8 = errorCode e.kind ∧ v3.toNat / 1024 % 4 = operationCode e.operation ∧
      v3.toNat % 1024 = e.index) ∧
    (∀ k, r.lastError = none → r.seat = .settling → r.timer = some k → k ≤ 255000 →
      v3.toNat = if k % 1000 = 0 then k / 1000 else k / 1000 + 1) ∧
    (r.lastError = none → r.seat ≠ .settling → v3 = 0#16) ∧
    c0.getLsbD 8 = (s.context n).abortPending ∧
    ((s.context n).transfer = none →
      c0.toNat / 512 = 0 ∧ c0.toNat % 256 = 0 ∧ s.readRegister 0x17#5 = 0#16 ∧ s.readRegister 0x18#5 = 0#16) ∧
    ∀ x, (s.context n).transfer = some x → x.count ≤ 2048 → x.moved ≤ 2048 →
      c0.toNat / 8192 = phaseCode x.phase ∧ (c0.getLsbD 12 = true ↔ x.direction = .output) ∧
      (∀ reason, x.phase = .halted reason → c0.toNat / 512 % 8 = reasonCode reason) ∧
      ((∀ reason, x.phase ≠ .halted reason) → c0.toNat / 512 % 8 = 0) ∧ c0.toNat % 256 = x.tag.toNat ∧
      (s.readRegister 0x17#5).toNat = x.count ∧ (s.readRegister 0x18#5).toNat = x.moved
end

