-- ==== Sys2Proof/Laws/State.lean ====
section
/-! SUPPORT. One lemma per field per update: what each named update of State leaves and what it sets. -/

namespace Sys2Proof.Machine

/-! ## Slot records and contexts after an update -/

theorem State.slot_def (s : State) (n : Slot) : s.slot n = s.slots[n] := rfl

theorem State.context_def (s : State) (n : Slot) : s.context n = s.contexts[n] := rfl

@[simp] theorem State.slot_setSlot (s : State) (n m : Slot) (r : SlotRecord) :
    (s.setSlot n r).slot m = if n = m then r else s.slot m := by
  simp [State.slot, State.setSlot, Vector.getElem_set, Fin.ext_iff]

@[simp] theorem State.context_setContext (s : State) (n m : Slot) (c : Context) :
    (s.setContext n c).context m = if n = m then c else s.context m := by
  simp [State.context, State.setContext, Vector.getElem_set, Fin.ext_iff]

@[simp] theorem State.context_setTransfer (s : State) (n m : Slot) (x : Transfer) :
    (s.setTransfer n x).context m =
      if n = m then { s.context n with transfer := some x } else s.context m := by
  simp [State.setTransfer]

/-! ## setSlot -/

@[simp] theorem State.setSlot_lines (s : State) (n : Slot) (r : SlotRecord) : (s.setSlot n r).lines = s.lines := rfl
@[simp] theorem State.setSlot_readData (s : State) (n : Slot) (r : SlotRecord) :
    (s.setSlot n r).readData = s.readData := rfl
@[simp] theorem State.setSlot_starting (s : State) (n : Slot) (r : SlotRecord) :
    (s.setSlot n r).starting = s.starting := rfl
@[simp] theorem State.setSlot_overrun (s : State) (n : Slot) (r : SlotRecord) :
    (s.setSlot n r).overrun = s.overrun := rfl
@[simp] theorem State.setSlot_windowFault (s : State) (n : Slot) (r : SlotRecord) :
    (s.setSlot n r).windowFault = s.windowFault := rfl
@[simp] theorem State.setSlot_pointer (s : State) (n : Slot) (r : SlotRecord) :
    (s.setSlot n r).pointer = s.pointer := rfl
@[simp] theorem State.setSlot_slotSelect (s : State) (n : Slot) (r : SlotRecord) :
    (s.setSlot n r).slotSelect = s.slotSelect := rfl
@[simp] theorem State.setSlot_control (s : State) (n : Slot) (r : SlotRecord) :
    (s.setSlot n r).control = s.control := rfl
@[simp] theorem State.setSlot_timing (s : State) (n : Slot) (r : SlotRecord) : (s.setSlot n r).timing = s.timing := rfl
@[simp] theorem State.setSlot_cmd (s : State) (n : Slot) (r : SlotRecord) : (s.setSlot n r).cmd = s.cmd := rfl
@[simp] theorem State.setSlot_slots (s : State) (n : Slot) (r : SlotRecord) :
    (s.setSlot n r).slots = s.slots.set n r := rfl
@[simp] theorem State.setSlot_arb (s : State) (n : Slot) (r : SlotRecord) : (s.setSlot n r).arb = s.arb := rfl
@[simp] theorem State.setSlot_clear (s : State) (n : Slot) (r : SlotRecord) : (s.setSlot n r).clear = s.clear := rfl
@[simp] theorem State.setSlot_op (s : State) (n : Slot) (r : SlotRecord) : (s.setSlot n r).op = s.op := rfl
@[simp] theorem State.setSlot_attention (s : State) (n : Slot) (r : SlotRecord) :
    (s.setSlot n r).attention = s.attention := rfl
@[simp] theorem State.setSlot_inService (s : State) (n : Slot) (r : SlotRecord) :
    (s.setSlot n r).inService = s.inService := rfl
@[simp] theorem State.setSlot_contexts (s : State) (n : Slot) (r : SlotRecord) :
    (s.setSlot n r).contexts = s.contexts := rfl
@[simp] theorem State.setSlot_store (s : State) (n : Slot) (r : SlotRecord) : (s.setSlot n r).store = s.store := rfl
@[simp] theorem State.setSlot_freePages (s : State) (n : Slot) (r : SlotRecord) :
    (s.setSlot n r).freePages = s.freePages := rfl
@[simp] theorem State.setSlot_events (s : State) (n : Slot) (r : SlotRecord) : (s.setSlot n r).events = s.events := rfl
@[simp] theorem State.setSlot_pending (s : State) (n : Slot) (r : SlotRecord) :
    (s.setSlot n r).pending = s.pending := rfl
@[simp] theorem State.setSlot_releaseHeld (s : State) (n : Slot) (r : SlotRecord) :
    (s.setSlot n r).releaseHeld = s.releaseHeld := rfl
@[simp] theorem State.setSlot_context (s : State) (n : Slot) (r : SlotRecord) (m : Slot) :
    (s.setSlot n r).context m = s.context m := rfl

/-! ## setContext -/

@[simp] theorem State.setContext_lines (s : State) (n : Slot) (c : Context) : (s.setContext n c).lines = s.lines := rfl
@[simp] theorem State.setContext_readData (s : State) (n : Slot) (c : Context) :
    (s.setContext n c).readData = s.readData := rfl
@[simp] theorem State.setContext_starting (s : State) (n : Slot) (c : Context) :
    (s.setContext n c).starting = s.starting := rfl
@[simp] theorem State.setContext_overrun (s : State) (n : Slot) (c : Context) :
    (s.setContext n c).overrun = s.overrun := rfl
@[simp] theorem State.setContext_windowFault (s : State) (n : Slot) (c : Context) :
    (s.setContext n c).windowFault = s.windowFault := rfl
@[simp] theorem State.setContext_pointer (s : State) (n : Slot) (c : Context) :
    (s.setContext n c).pointer = s.pointer := rfl
@[simp] theorem State.setContext_slotSelect (s : State) (n : Slot) (c : Context) :
    (s.setContext n c).slotSelect = s.slotSelect := rfl
@[simp] theorem State.setContext_control (s : State) (n : Slot) (c : Context) :
    (s.setContext n c).control = s.control := rfl
@[simp] theorem State.setContext_timing (s : State) (n : Slot) (c : Context) :
    (s.setContext n c).timing = s.timing := rfl
@[simp] theorem State.setContext_cmd (s : State) (n : Slot) (c : Context) : (s.setContext n c).cmd = s.cmd := rfl
@[simp] theorem State.setContext_slots (s : State) (n : Slot) (c : Context) : (s.setContext n c).slots = s.slots := rfl
@[simp] theorem State.setContext_arb (s : State) (n : Slot) (c : Context) : (s.setContext n c).arb = s.arb := rfl
@[simp] theorem State.setContext_clear (s : State) (n : Slot) (c : Context) : (s.setContext n c).clear = s.clear := rfl
@[simp] theorem State.setContext_op (s : State) (n : Slot) (c : Context) : (s.setContext n c).op = s.op := rfl
@[simp] theorem State.setContext_attention (s : State) (n : Slot) (c : Context) :
    (s.setContext n c).attention = s.attention := rfl
@[simp] theorem State.setContext_inService (s : State) (n : Slot) (c : Context) :
    (s.setContext n c).inService = s.inService := rfl
@[simp] theorem State.setContext_contexts (s : State) (n : Slot) (c : Context) :
    (s.setContext n c).contexts = s.contexts.set n c := rfl
@[simp] theorem State.setContext_store (s : State) (n : Slot) (c : Context) : (s.setContext n c).store = s.store := rfl
@[simp] theorem State.setContext_freePages (s : State) (n : Slot) (c : Context) :
    (s.setContext n c).freePages = s.freePages := rfl
@[simp] theorem State.setContext_events (s : State) (n : Slot) (c : Context) :
    (s.setContext n c).events = s.events := rfl
@[simp] theorem State.setContext_pending (s : State) (n : Slot) (c : Context) :
    (s.setContext n c).pending = s.pending := rfl
@[simp] theorem State.setContext_releaseHeld (s : State) (n : Slot) (c : Context) :
    (s.setContext n c).releaseHeld = s.releaseHeld := rfl
@[simp] theorem State.setContext_slot (s : State) (n : Slot) (c : Context) (m : Slot) :
    (s.setContext n c).slot m = s.slot m := rfl

/-! ## setTransfer -/

@[simp] theorem State.setTransfer_lines (s : State) (n : Slot) (x : Transfer) :
    (s.setTransfer n x).lines = s.lines := rfl
@[simp] theorem State.setTransfer_readData (s : State) (n : Slot) (x : Transfer) :
    (s.setTransfer n x).readData = s.readData := rfl
@[simp] theorem State.setTransfer_starting (s : State) (n : Slot) (x : Transfer) :
    (s.setTransfer n x).starting = s.starting := rfl
@[simp] theorem State.setTransfer_overrun (s : State) (n : Slot) (x : Transfer) :
    (s.setTransfer n x).overrun = s.overrun := rfl
@[simp] theorem State.setTransfer_windowFault (s : State) (n : Slot) (x : Transfer) :
    (s.setTransfer n x).windowFault = s.windowFault := rfl
@[simp] theorem State.setTransfer_pointer (s : State) (n : Slot) (x : Transfer) :
    (s.setTransfer n x).pointer = s.pointer := rfl
@[simp] theorem State.setTransfer_slotSelect (s : State) (n : Slot) (x : Transfer) :
    (s.setTransfer n x).slotSelect = s.slotSelect := rfl
@[simp] theorem State.setTransfer_control (s : State) (n : Slot) (x : Transfer) :
    (s.setTransfer n x).control = s.control := rfl
@[simp] theorem State.setTransfer_timing (s : State) (n : Slot) (x : Transfer) :
    (s.setTransfer n x).timing = s.timing := rfl
@[simp] theorem State.setTransfer_cmd (s : State) (n : Slot) (x : Transfer) : (s.setTransfer n x).cmd = s.cmd := rfl
@[simp] theorem State.setTransfer_slots (s : State) (n : Slot) (x : Transfer) :
    (s.setTransfer n x).slots = s.slots := rfl
@[simp] theorem State.setTransfer_arb (s : State) (n : Slot) (x : Transfer) : (s.setTransfer n x).arb = s.arb := rfl
@[simp] theorem State.setTransfer_clear (s : State) (n : Slot) (x : Transfer) :
    (s.setTransfer n x).clear = s.clear := rfl
@[simp] theorem State.setTransfer_op (s : State) (n : Slot) (x : Transfer) : (s.setTransfer n x).op = s.op := rfl
@[simp] theorem State.setTransfer_attention (s : State) (n : Slot) (x : Transfer) :
    (s.setTransfer n x).attention = s.attention := rfl
@[simp] theorem State.setTransfer_inService (s : State) (n : Slot) (x : Transfer) :
    (s.setTransfer n x).inService = s.inService := rfl
@[simp] theorem State.setTransfer_contexts (s : State) (n : Slot) (x : Transfer) :
    (s.setTransfer n x).contexts = s.contexts.set n { s.context n with transfer := some x } := rfl
@[simp] theorem State.setTransfer_store (s : State) (n : Slot) (x : Transfer) :
    (s.setTransfer n x).store = s.store := rfl
@[simp] theorem State.setTransfer_freePages (s : State) (n : Slot) (x : Transfer) :
    (s.setTransfer n x).freePages = s.freePages := rfl
@[simp] theorem State.setTransfer_events (s : State) (n : Slot) (x : Transfer) :
    (s.setTransfer n x).events = s.events := rfl
@[simp] theorem State.setTransfer_pending (s : State) (n : Slot) (x : Transfer) :
    (s.setTransfer n x).pending = s.pending := rfl
@[simp] theorem State.setTransfer_releaseHeld (s : State) (n : Slot) (x : Transfer) :
    (s.setTransfer n x).releaseHeld = s.releaseHeld := rfl
@[simp] theorem State.setTransfer_slot (s : State) (n : Slot) (x : Transfer) (m : Slot) :
    (s.setTransfer n x).slot m = s.slot m := rfl

/-! ## reportSeat -/

@[simp] theorem State.reportSeat_lines (s : State) (n : Slot) (c : SeatChange) :
    (s.reportSeat n c).lines = s.lines := rfl
@[simp] theorem State.reportSeat_readData (s : State) (n : Slot) (c : SeatChange) :
    (s.reportSeat n c).readData = s.readData := rfl
@[simp] theorem State.reportSeat_starting (s : State) (n : Slot) (c : SeatChange) :
    (s.reportSeat n c).starting = s.starting := rfl
@[simp] theorem State.reportSeat_overrun (s : State) (n : Slot) (c : SeatChange) :
    (s.reportSeat n c).overrun = s.overrun := rfl
@[simp] theorem State.reportSeat_windowFault (s : State) (n : Slot) (c : SeatChange) :
    (s.reportSeat n c).windowFault = s.windowFault := rfl
@[simp] theorem State.reportSeat_pointer (s : State) (n : Slot) (c : SeatChange) :
    (s.reportSeat n c).pointer = s.pointer := rfl
@[simp] theorem State.reportSeat_slotSelect (s : State) (n : Slot) (c : SeatChange) :
    (s.reportSeat n c).slotSelect = s.slotSelect := rfl
@[simp] theorem State.reportSeat_control (s : State) (n : Slot) (c : SeatChange) :
    (s.reportSeat n c).control = s.control := rfl
@[simp] theorem State.reportSeat_timing (s : State) (n : Slot) (c : SeatChange) :
    (s.reportSeat n c).timing = s.timing := rfl
@[simp] theorem State.reportSeat_cmd (s : State) (n : Slot) (c : SeatChange) : (s.reportSeat n c).cmd = s.cmd := rfl
@[simp] theorem State.reportSeat_slots (s : State) (n : Slot) (c : SeatChange) :
    (s.reportSeat n c).slots = s.slots := rfl
@[simp] theorem State.reportSeat_arb (s : State) (n : Slot) (c : SeatChange) : (s.reportSeat n c).arb = s.arb := rfl
@[simp] theorem State.reportSeat_clear (s : State) (n : Slot) (c : SeatChange) :
    (s.reportSeat n c).clear = s.clear := rfl
@[simp] theorem State.reportSeat_op (s : State) (n : Slot) (c : SeatChange) : (s.reportSeat n c).op = s.op := rfl
@[simp] theorem State.reportSeat_attention (s : State) (n : Slot) (c : SeatChange) :
    (s.reportSeat n c).attention = s.attention := rfl
@[simp] theorem State.reportSeat_inService (s : State) (n : Slot) (c : SeatChange) :
    (s.reportSeat n c).inService = s.inService := rfl
@[simp] theorem State.reportSeat_contexts (s : State) (n : Slot) (c : SeatChange) :
    (s.reportSeat n c).contexts = s.contexts := rfl
@[simp] theorem State.reportSeat_store (s : State) (n : Slot) (c : SeatChange) :
    (s.reportSeat n c).store = s.store := rfl
@[simp] theorem State.reportSeat_freePages (s : State) (n : Slot) (c : SeatChange) :
    (s.reportSeat n c).freePages = s.freePages := rfl
@[simp] theorem State.reportSeat_events (s : State) (n : Slot) (c : SeatChange) :
    (s.reportSeat n c).events = insertSeat n c s.events := rfl
@[simp] theorem State.reportSeat_pending (s : State) (n : Slot) (c : SeatChange) :
    (s.reportSeat n c).pending = s.pending := rfl
@[simp] theorem State.reportSeat_releaseHeld (s : State) (n : Slot) (c : SeatChange) :
    (s.reportSeat n c).releaseHeld = s.releaseHeld := rfl
@[simp] theorem State.reportSeat_slot (s : State) (n : Slot) (c : SeatChange) (m : Slot) :
    (s.reportSeat n c).slot m = s.slot m := rfl
@[simp] theorem State.reportSeat_context (s : State) (n : Slot) (c : SeatChange) (m : Slot) :
    (s.reportSeat n c).context m = s.context m := rfl

/-! ## reportTransfer -/

@[simp] theorem State.reportTransfer_lines (s : State) (n : Slot) (e : TransferEnd) (x : Transfer) (k : Nat) :
    (s.reportTransfer n e x k).lines = s.lines := rfl
@[simp] theorem State.reportTransfer_readData (s : State) (n : Slot) (e : TransferEnd) (x : Transfer) (k : Nat) :
    (s.reportTransfer n e x k).readData = s.readData := rfl
@[simp] theorem State.reportTransfer_starting (s : State) (n : Slot) (e : TransferEnd) (x : Transfer) (k : Nat) :
    (s.reportTransfer n e x k).starting = s.starting := rfl
@[simp] theorem State.reportTransfer_overrun (s : State) (n : Slot) (e : TransferEnd) (x : Transfer) (k : Nat) :
    (s.reportTransfer n e x k).overrun = s.overrun := rfl
@[simp] theorem State.reportTransfer_windowFault (s : State) (n : Slot) (e : TransferEnd) (x : Transfer) (k : Nat) :
    (s.reportTransfer n e x k).windowFault = s.windowFault := rfl
@[simp] theorem State.reportTransfer_pointer (s : State) (n : Slot) (e : TransferEnd) (x : Transfer) (k : Nat) :
    (s.reportTransfer n e x k).pointer = s.pointer := rfl
@[simp] theorem State.reportTransfer_slotSelect (s : State) (n : Slot) (e : TransferEnd) (x : Transfer) (k : Nat) :
    (s.reportTransfer n e x k).slotSelect = s.slotSelect := rfl
@[simp] theorem State.reportTransfer_control (s : State) (n : Slot) (e : TransferEnd) (x : Transfer) (k : Nat) :
    (s.reportTransfer n e x k).control = s.control := rfl
@[simp] theorem State.reportTransfer_timing (s : State) (n : Slot) (e : TransferEnd) (x : Transfer) (k : Nat) :
    (s.reportTransfer n e x k).timing = s.timing := rfl
@[simp] theorem State.reportTransfer_cmd (s : State) (n : Slot) (e : TransferEnd) (x : Transfer) (k : Nat) :
    (s.reportTransfer n e x k).cmd = s.cmd := rfl
@[simp] theorem State.reportTransfer_slots (s : State) (n : Slot) (e : TransferEnd) (x : Transfer) (k : Nat) :
    (s.reportTransfer n e x k).slots = s.slots := rfl
@[simp] theorem State.reportTransfer_arb (s : State) (n : Slot) (e : TransferEnd) (x : Transfer) (k : Nat) :
    (s.reportTransfer n e x k).arb = s.arb := rfl
@[simp] theorem State.reportTransfer_clear (s : State) (n : Slot) (e : TransferEnd) (x : Transfer) (k : Nat) :
    (s.reportTransfer n e x k).clear = s.clear := rfl
@[simp] theorem State.reportTransfer_op (s : State) (n : Slot) (e : TransferEnd) (x : Transfer) (k : Nat) :
    (s.reportTransfer n e x k).op = s.op := rfl
@[simp] theorem State.reportTransfer_attention (s : State) (n : Slot) (e : TransferEnd) (x : Transfer) (k : Nat) :
    (s.reportTransfer n e x k).attention = s.attention := rfl
@[simp] theorem State.reportTransfer_inService (s : State) (n : Slot) (e : TransferEnd) (x : Transfer) (k : Nat) :
    (s.reportTransfer n e x k).inService = s.inService := rfl
@[simp] theorem State.reportTransfer_contexts (s : State) (n : Slot) (e : TransferEnd) (x : Transfer) (k : Nat) :
    (s.reportTransfer n e x k).contexts = s.contexts := rfl
@[simp] theorem State.reportTransfer_store (s : State) (n : Slot) (e : TransferEnd) (x : Transfer) (k : Nat) :
    (s.reportTransfer n e x k).store = s.store := rfl
@[simp] theorem State.reportTransfer_freePages (s : State) (n : Slot) (e : TransferEnd) (x : Transfer) (k : Nat) :
    (s.reportTransfer n e x k).freePages = s.freePages := rfl
@[simp] theorem State.reportTransfer_events (s : State) (n : Slot) (e : TransferEnd) (x : Transfer) (k : Nat) :
    (s.reportTransfer n e x k).events = s.events ++ [.transfer n e x.tag x.direction k] := rfl
@[simp] theorem State.reportTransfer_pending (s : State) (n : Slot) (e : TransferEnd) (x : Transfer) (k : Nat) :
    (s.reportTransfer n e x k).pending = s.pending := rfl
@[simp] theorem State.reportTransfer_releaseHeld (s : State) (n : Slot) (e : TransferEnd) (x : Transfer) (k : Nat) :
    (s.reportTransfer n e x k).releaseHeld = s.releaseHeld := rfl
@[simp] theorem State.reportTransfer_slot (s : State) (n : Slot) (e : TransferEnd) (x : Transfer) (k : Nat) (m : Slot) :
    (s.reportTransfer n e x k).slot m = s.slot m := rfl
@[simp] theorem State.reportTransfer_context (s : State) (n : Slot) (e : TransferEnd) (x : Transfer) (k : Nat) (m : Slot) :
    (s.reportTransfer n e x k).context m = s.context m := rfl

/-! ## complete -/

@[simp] theorem State.complete_lines (s : State) (r : Result) (d : Word) : (s.complete r d).lines = s.lines := rfl
@[simp] theorem State.complete_readData (s : State) (r : Result) (d : Word) :
    (s.complete r d).readData = s.readData := rfl
@[simp] theorem State.complete_starting (s : State) (r : Result) (d : Word) :
    (s.complete r d).starting = s.starting := rfl
@[simp] theorem State.complete_overrun (s : State) (r : Result) (d : Word) : (s.complete r d).overrun = s.overrun := rfl
@[simp] theorem State.complete_windowFault (s : State) (r : Result) (d : Word) :
    (s.complete r d).windowFault = s.windowFault := rfl
@[simp] theorem State.complete_pointer (s : State) (r : Result) (d : Word) : (s.complete r d).pointer = s.pointer := rfl
@[simp] theorem State.complete_slotSelect (s : State) (r : Result) (d : Word) :
    (s.complete r d).slotSelect = s.slotSelect := rfl
@[simp] theorem State.complete_control (s : State) (r : Result) (d : Word) : (s.complete r d).control = s.control := rfl
@[simp] theorem State.complete_timing (s : State) (r : Result) (d : Word) : (s.complete r d).timing = s.timing := rfl
@[simp] theorem State.complete_cmd (s : State) (r : Result) (d : Word) :
    (s.complete r d).cmd = { s.cmd with executing := none, result := r, resultData := d } := rfl
@[simp] theorem State.complete_slots (s : State) (r : Result) (d : Word) : (s.complete r d).slots = s.slots := rfl
@[simp] theorem State.complete_arb (s : State) (r : Result) (d : Word) : (s.complete r d).arb = s.arb := rfl
@[simp] theorem State.complete_clear (s : State) (r : Result) (d : Word) : (s.complete r d).clear = s.clear := rfl
@[simp] theorem State.complete_op (s : State) (r : Result) (d : Word) : (s.complete r d).op = s.op := rfl
@[simp] theorem State.complete_attention (s : State) (r : Result) (d : Word) :
    (s.complete r d).attention = s.attention := rfl
@[simp] theorem State.complete_inService (s : State) (r : Result) (d : Word) :
    (s.complete r d).inService = s.inService := rfl
@[simp] theorem State.complete_contexts (s : State) (r : Result) (d : Word) :
    (s.complete r d).contexts = s.contexts := rfl
@[simp] theorem State.complete_store (s : State) (r : Result) (d : Word) : (s.complete r d).store = s.store := rfl
@[simp] theorem State.complete_freePages (s : State) (r : Result) (d : Word) :
    (s.complete r d).freePages = s.freePages := rfl
@[simp] theorem State.complete_events (s : State) (r : Result) (d : Word) : (s.complete r d).events = s.events := rfl
@[simp] theorem State.complete_pending (s : State) (r : Result) (d : Word) : (s.complete r d).pending = s.pending := rfl
@[simp] theorem State.complete_releaseHeld (s : State) (r : Result) (d : Word) : (s.complete r d).releaseHeld = s.releaseHeld := rfl
@[simp] theorem State.complete_slot (s : State) (r : Result) (d : Word) (m : Slot) :
    (s.complete r d).slot m = s.slot m := rfl
@[simp] theorem State.complete_context (s : State) (r : Result) (d : Word) (m : Slot) :
    (s.complete r d).context m = s.context m := rfl

/-! ## execute -/

@[simp] theorem State.execute_lines (s : State) : (s.execute).lines = s.lines := rfl
@[simp] theorem State.execute_readData (s : State) : (s.execute).readData = s.readData := rfl
@[simp] theorem State.execute_starting (s : State) : (s.execute).starting = s.starting := rfl
@[simp] theorem State.execute_overrun (s : State) : (s.execute).overrun = s.overrun := rfl
@[simp] theorem State.execute_windowFault (s : State) : (s.execute).windowFault = s.windowFault := rfl
@[simp] theorem State.execute_pointer (s : State) : (s.execute).pointer = s.pointer := rfl
@[simp] theorem State.execute_slotSelect (s : State) : (s.execute).slotSelect = s.slotSelect := rfl
@[simp] theorem State.execute_control (s : State) : (s.execute).control = s.control := rfl
@[simp] theorem State.execute_timing (s : State) : (s.execute).timing = s.timing := rfl
@[simp] theorem State.execute_cmd (s : State) :
    (s.execute).cmd = { s.cmd with executing := some ⟨s.cmd.code, s.cmd.opa, s.cmd.opb⟩ } := rfl
@[simp] theorem State.execute_slots (s : State) : (s.execute).slots = s.slots := rfl
@[simp] theorem State.execute_arb (s : State) : (s.execute).arb = s.arb := rfl
@[simp] theorem State.execute_clear (s : State) : (s.execute).clear = s.clear := rfl
@[simp] theorem State.execute_op (s : State) : (s.execute).op = s.op := rfl
@[simp] theorem State.execute_attention (s : State) : (s.execute).attention = s.attention := rfl
@[simp] theorem State.execute_inService (s : State) : (s.execute).inService = s.inService := rfl
@[simp] theorem State.execute_contexts (s : State) : (s.execute).contexts = s.contexts := rfl
@[simp] theorem State.execute_store (s : State) : (s.execute).store = s.store := rfl
@[simp] theorem State.execute_freePages (s : State) : (s.execute).freePages = s.freePages := rfl
@[simp] theorem State.execute_events (s : State) : (s.execute).events = s.events := rfl
@[simp] theorem State.execute_pending (s : State) : (s.execute).pending = s.pending := rfl
@[simp] theorem State.execute_releaseHeld (s : State) : (s.execute).releaseHeld = s.releaseHeld := rfl
@[simp] theorem State.execute_slot (s : State) (m : Slot) : (s.execute).slot m = s.slot m := rfl
@[simp] theorem State.execute_context (s : State) (m : Slot) : (s.execute).context m = s.context m := rfl

/-! ## clearErrors -/

@[simp] theorem State.clearErrors_lines (s : State) (n : Slot) : (s.clearErrors n).lines = s.lines := rfl
@[simp] theorem State.clearErrors_readData (s : State) (n : Slot) : (s.clearErrors n).readData = s.readData := rfl
@[simp] theorem State.clearErrors_starting (s : State) (n : Slot) : (s.clearErrors n).starting = s.starting := rfl
@[simp] theorem State.clearErrors_overrun (s : State) (n : Slot) : (s.clearErrors n).overrun = s.overrun := rfl
@[simp] theorem State.clearErrors_windowFault (s : State) (n : Slot) :
    (s.clearErrors n).windowFault = s.windowFault := rfl
@[simp] theorem State.clearErrors_pointer (s : State) (n : Slot) : (s.clearErrors n).pointer = s.pointer := rfl
@[simp] theorem State.clearErrors_slotSelect (s : State) (n : Slot) : (s.clearErrors n).slotSelect = s.slotSelect := rfl
@[simp] theorem State.clearErrors_control (s : State) (n : Slot) : (s.clearErrors n).control = s.control := rfl
@[simp] theorem State.clearErrors_timing (s : State) (n : Slot) : (s.clearErrors n).timing = s.timing := rfl
@[simp] theorem State.clearErrors_cmd (s : State) (n : Slot) : (s.clearErrors n).cmd = s.cmd := rfl
@[simp] theorem State.clearErrors_slots (s : State) (n : Slot) :
    (s.clearErrors n).slots = s.slots.set n { s.slot n with errorCount := 0 } := rfl
@[simp] theorem State.clearErrors_arb (s : State) (n : Slot) : (s.clearErrors n).arb = s.arb := rfl
@[simp] theorem State.clearErrors_clear (s : State) (n : Slot) : (s.clearErrors n).clear = s.clear := rfl
@[simp] theorem State.clearErrors_op (s : State) (n : Slot) : (s.clearErrors n).op = s.op := rfl
@[simp] theorem State.clearErrors_attention (s : State) (n : Slot) : (s.clearErrors n).attention = s.attention := rfl
@[simp] theorem State.clearErrors_inService (s : State) (n : Slot) : (s.clearErrors n).inService = s.inService := rfl
@[simp] theorem State.clearErrors_contexts (s : State) (n : Slot) : (s.clearErrors n).contexts = s.contexts := rfl
@[simp] theorem State.clearErrors_store (s : State) (n : Slot) : (s.clearErrors n).store = s.store := rfl
@[simp] theorem State.clearErrors_freePages (s : State) (n : Slot) : (s.clearErrors n).freePages = s.freePages := rfl
@[simp] theorem State.clearErrors_events (s : State) (n : Slot) : (s.clearErrors n).events = s.events := rfl
@[simp] theorem State.clearErrors_pending (s : State) (n : Slot) : (s.clearErrors n).pending = s.pending := rfl
@[simp] theorem State.clearErrors_releaseHeld (s : State) (n : Slot) : (s.clearErrors n).releaseHeld = s.releaseHeld := rfl
@[simp] theorem State.clearErrors_context (s : State) (n : Slot) (m : Slot) :
    (s.clearErrors n).context m = s.context m := rfl

/-! ## enterSettling -/

@[simp] theorem State.enterSettling_lines (s : State) (n : Slot) : (s.enterSettling n).lines = s.lines := rfl
@[simp] theorem State.enterSettling_readData (s : State) (n : Slot) : (s.enterSettling n).readData = s.readData := rfl
@[simp] theorem State.enterSettling_starting (s : State) (n : Slot) : (s.enterSettling n).starting = s.starting := rfl
@[simp] theorem State.enterSettling_overrun (s : State) (n : Slot) : (s.enterSettling n).overrun = s.overrun := rfl
@[simp] theorem State.enterSettling_windowFault (s : State) (n : Slot) :
    (s.enterSettling n).windowFault = s.windowFault := rfl
@[simp] theorem State.enterSettling_pointer (s : State) (n : Slot) : (s.enterSettling n).pointer = s.pointer := rfl
@[simp] theorem State.enterSettling_slotSelect (s : State) (n : Slot) :
    (s.enterSettling n).slotSelect = s.slotSelect := rfl
@[simp] theorem State.enterSettling_control (s : State) (n : Slot) : (s.enterSettling n).control = s.control := rfl
@[simp] theorem State.enterSettling_timing (s : State) (n : Slot) : (s.enterSettling n).timing = s.timing := rfl
@[simp] theorem State.enterSettling_cmd (s : State) (n : Slot) : (s.enterSettling n).cmd = s.cmd := rfl
@[simp] theorem State.enterSettling_arb (s : State) (n : Slot) : (s.enterSettling n).arb = s.arb := rfl
@[simp] theorem State.enterSettling_clear (s : State) (n : Slot) : (s.enterSettling n).clear = s.clear := rfl
@[simp] theorem State.enterSettling_op (s : State) (n : Slot) : (s.enterSettling n).op = s.op := rfl
@[simp] theorem State.enterSettling_attention (s : State) (n : Slot) :
    (s.enterSettling n).attention = s.attention := rfl
@[simp] theorem State.enterSettling_inService (s : State) (n : Slot) :
    (s.enterSettling n).inService = s.inService := rfl
@[simp] theorem State.enterSettling_contexts (s : State) (n : Slot) : (s.enterSettling n).contexts = s.contexts := rfl
@[simp] theorem State.enterSettling_store (s : State) (n : Slot) : (s.enterSettling n).store = s.store := rfl
@[simp] theorem State.enterSettling_freePages (s : State) (n : Slot) :
    (s.enterSettling n).freePages = s.freePages := rfl
@[simp] theorem State.enterSettling_events (s : State) (n : Slot) : (s.enterSettling n).events = s.events := rfl
@[simp] theorem State.enterSettling_pending (s : State) (n : Slot) : (s.enterSettling n).pending = s.pending := rfl
@[simp] theorem State.enterSettling_releaseHeld (s : State) (n : Slot) : (s.enterSettling n).releaseHeld = s.releaseHeld := rfl
@[simp] theorem State.enterSettling_context (s : State) (n : Slot) (m : Slot) :
    (s.enterSettling n).context m = s.context m := rfl

/-! ## failIdentify -/

@[simp] theorem State.failIdentify_lines (s : State) (n : Slot) (k : ErrorKind) (i : Nat) :
    (s.failIdentify n k i).lines = s.lines := rfl
@[simp] theorem State.failIdentify_readData (s : State) (n : Slot) (k : ErrorKind) (i : Nat) :
    (s.failIdentify n k i).readData = s.readData := rfl
@[simp] theorem State.failIdentify_starting (s : State) (n : Slot) (k : ErrorKind) (i : Nat) :
    (s.failIdentify n k i).starting = s.starting := rfl
@[simp] theorem State.failIdentify_overrun (s : State) (n : Slot) (k : ErrorKind) (i : Nat) :
    (s.failIdentify n k i).overrun = s.overrun := rfl
@[simp] theorem State.failIdentify_windowFault (s : State) (n : Slot) (k : ErrorKind) (i : Nat) :
    (s.failIdentify n k i).windowFault = s.windowFault := rfl
@[simp] theorem State.failIdentify_pointer (s : State) (n : Slot) (k : ErrorKind) (i : Nat) :
    (s.failIdentify n k i).pointer = s.pointer := rfl
@[simp] theorem State.failIdentify_slotSelect (s : State) (n : Slot) (k : ErrorKind) (i : Nat) :
    (s.failIdentify n k i).slotSelect = s.slotSelect := rfl
@[simp] theorem State.failIdentify_control (s : State) (n : Slot) (k : ErrorKind) (i : Nat) :
    (s.failIdentify n k i).control = s.control := rfl
@[simp] theorem State.failIdentify_timing (s : State) (n : Slot) (k : ErrorKind) (i : Nat) :
    (s.failIdentify n k i).timing = s.timing := rfl
@[simp] theorem State.failIdentify_cmd (s : State) (n : Slot) (k : ErrorKind) (i : Nat) :
    (s.failIdentify n k i).cmd = s.cmd := rfl
@[simp] theorem State.failIdentify_arb (s : State) (n : Slot) (k : ErrorKind) (i : Nat) :
    (s.failIdentify n k i).arb = s.arb := rfl
@[simp] theorem State.failIdentify_clear (s : State) (n : Slot) (k : ErrorKind) (i : Nat) :
    (s.failIdentify n k i).clear = s.clear := rfl
@[simp] theorem State.failIdentify_op (s : State) (n : Slot) (k : ErrorKind) (i : Nat) :
    (s.failIdentify n k i).op = s.op := rfl
@[simp] theorem State.failIdentify_attention (s : State) (n : Slot) (k : ErrorKind) (i : Nat) :
    (s.failIdentify n k i).attention = s.attention := rfl
@[simp] theorem State.failIdentify_inService (s : State) (n : Slot) (k : ErrorKind) (i : Nat) :
    (s.failIdentify n k i).inService = s.inService := rfl
@[simp] theorem State.failIdentify_contexts (s : State) (n : Slot) (k : ErrorKind) (i : Nat) :
    (s.failIdentify n k i).contexts = s.contexts := rfl
@[simp] theorem State.failIdentify_store (s : State) (n : Slot) (k : ErrorKind) (i : Nat) :
    (s.failIdentify n k i).store = s.store := rfl
@[simp] theorem State.failIdentify_freePages (s : State) (n : Slot) (k : ErrorKind) (i : Nat) :
    (s.failIdentify n k i).freePages = s.freePages := rfl
@[simp] theorem State.failIdentify_events (s : State) (n : Slot) (k : ErrorKind) (i : Nat) :
    (s.failIdentify n k i).events = insertSeat n (.identFailed k) s.events := rfl
@[simp] theorem State.failIdentify_pending (s : State) (n : Slot) (k : ErrorKind) (i : Nat) :
    (s.failIdentify n k i).pending = s.pending := rfl
@[simp] theorem State.failIdentify_releaseHeld (s : State) (n : Slot) (k : ErrorKind) (i : Nat) :
    (s.failIdentify n k i).releaseHeld = s.releaseHeld := rfl
@[simp] theorem State.failIdentify_context (s : State) (n : Slot) (k : ErrorKind) (i : Nat) (m : Slot) :
    (s.failIdentify n k i).context m = s.context m := rfl

/-! ## appendVector -/

@[simp] theorem State.appendVector_lines (s : State) (n : Slot) (v : Word) : (s.appendVector n v).lines = s.lines := rfl
@[simp] theorem State.appendVector_readData (s : State) (n : Slot) (v : Word) :
    (s.appendVector n v).readData = s.readData := rfl
@[simp] theorem State.appendVector_starting (s : State) (n : Slot) (v : Word) :
    (s.appendVector n v).starting = s.starting := rfl
@[simp] theorem State.appendVector_overrun (s : State) (n : Slot) (v : Word) :
    (s.appendVector n v).overrun = s.overrun := rfl
@[simp] theorem State.appendVector_windowFault (s : State) (n : Slot) (v : Word) :
    (s.appendVector n v).windowFault = s.windowFault := rfl
@[simp] theorem State.appendVector_pointer (s : State) (n : Slot) (v : Word) :
    (s.appendVector n v).pointer = s.pointer := rfl
@[simp] theorem State.appendVector_slotSelect (s : State) (n : Slot) (v : Word) :
    (s.appendVector n v).slotSelect = s.slotSelect := rfl
@[simp] theorem State.appendVector_control (s : State) (n : Slot) (v : Word) :
    (s.appendVector n v).control = s.control := rfl
@[simp] theorem State.appendVector_timing (s : State) (n : Slot) (v : Word) :
    (s.appendVector n v).timing = s.timing := rfl
@[simp] theorem State.appendVector_cmd (s : State) (n : Slot) (v : Word) : (s.appendVector n v).cmd = s.cmd := rfl
@[simp] theorem State.appendVector_slots (s : State) (n : Slot) (v : Word) : (s.appendVector n v).slots = s.slots := rfl
@[simp] theorem State.appendVector_arb (s : State) (n : Slot) (v : Word) : (s.appendVector n v).arb = s.arb := rfl
@[simp] theorem State.appendVector_clear (s : State) (n : Slot) (v : Word) : (s.appendVector n v).clear = s.clear := rfl
@[simp] theorem State.appendVector_op (s : State) (n : Slot) (v : Word) : (s.appendVector n v).op = s.op := rfl
@[simp] theorem State.appendVector_inService (s : State) (n : Slot) (v : Word) :
    (s.appendVector n v).inService = s.inService := rfl
@[simp] theorem State.appendVector_contexts (s : State) (n : Slot) (v : Word) :
    (s.appendVector n v).contexts = s.contexts := rfl
@[simp] theorem State.appendVector_store (s : State) (n : Slot) (v : Word) : (s.appendVector n v).store = s.store := rfl
@[simp] theorem State.appendVector_freePages (s : State) (n : Slot) (v : Word) :
    (s.appendVector n v).freePages = s.freePages := rfl
@[simp] theorem State.appendVector_events (s : State) (n : Slot) (v : Word) :
    (s.appendVector n v).events = s.events := rfl
@[simp] theorem State.appendVector_pending (s : State) (n : Slot) (v : Word) :
    (s.appendVector n v).pending = s.pending := rfl
@[simp] theorem State.appendVector_releaseHeld (s : State) (n : Slot) (v : Word) :
    (s.appendVector n v).releaseHeld = s.releaseHeld := rfl
@[simp] theorem State.appendVector_slot (s : State) (n : Slot) (v : Word) (m : Slot) :
    (s.appendVector n v).slot m = s.slot m := rfl
@[simp] theorem State.appendVector_context (s : State) (n : Slot) (v : Word) (m : Slot) :
    (s.appendVector n v).context m = s.context m := rfl

/-! ## purge -/

@[simp] theorem State.purge_lines (s : State) (n : Slot) : (s.purge n).lines = s.lines := rfl
@[simp] theorem State.purge_readData (s : State) (n : Slot) : (s.purge n).readData = s.readData := rfl
@[simp] theorem State.purge_starting (s : State) (n : Slot) : (s.purge n).starting = s.starting := rfl
@[simp] theorem State.purge_overrun (s : State) (n : Slot) : (s.purge n).overrun = s.overrun := rfl
@[simp] theorem State.purge_windowFault (s : State) (n : Slot) : (s.purge n).windowFault = s.windowFault := rfl
@[simp] theorem State.purge_pointer (s : State) (n : Slot) : (s.purge n).pointer = s.pointer := rfl
@[simp] theorem State.purge_slotSelect (s : State) (n : Slot) : (s.purge n).slotSelect = s.slotSelect := rfl
@[simp] theorem State.purge_control (s : State) (n : Slot) : (s.purge n).control = s.control := rfl
@[simp] theorem State.purge_timing (s : State) (n : Slot) : (s.purge n).timing = s.timing := rfl
@[simp] theorem State.purge_cmd (s : State) (n : Slot) : (s.purge n).cmd = s.cmd := rfl
@[simp] theorem State.purge_slots (s : State) (n : Slot) : (s.purge n).slots = s.slots := rfl
@[simp] theorem State.purge_arb (s : State) (n : Slot) : (s.purge n).arb = s.arb := rfl
@[simp] theorem State.purge_clear (s : State) (n : Slot) : (s.purge n).clear = s.clear := rfl
@[simp] theorem State.purge_op (s : State) (n : Slot) : (s.purge n).op = s.op := rfl
@[simp] theorem State.purge_attention (s : State) (n : Slot) :
    (s.purge n).attention = s.attention.filter (fun e => e.slot ≠ n) := rfl
@[simp] theorem State.purge_inService (s : State) (n : Slot) : (s.purge n).inService = s.inService.set n false := rfl
@[simp] theorem State.purge_contexts (s : State) (n : Slot) : (s.purge n).contexts = s.contexts := rfl
@[simp] theorem State.purge_store (s : State) (n : Slot) : (s.purge n).store = s.store := rfl
@[simp] theorem State.purge_freePages (s : State) (n : Slot) : (s.purge n).freePages = s.freePages := rfl
@[simp] theorem State.purge_events (s : State) (n : Slot) : (s.purge n).events = s.events := rfl
@[simp] theorem State.purge_pending (s : State) (n : Slot) : (s.purge n).pending = s.pending := rfl
@[simp] theorem State.purge_releaseHeld (s : State) (n : Slot) : (s.purge n).releaseHeld = s.releaseHeld := rfl
@[simp] theorem State.purge_slot (s : State) (n : Slot) (m : Slot) : (s.purge n).slot m = s.slot m := rfl
@[simp] theorem State.purge_context (s : State) (n : Slot) (m : Slot) : (s.purge n).context m = s.context m := rfl

/-! ## beginWord -/

@[simp] theorem State.beginWord_lines (s : State) (o : Operation) : (s.beginWord o).lines = s.lines := rfl
@[simp] theorem State.beginWord_readData (s : State) (o : Operation) : (s.beginWord o).readData = s.readData := rfl
@[simp] theorem State.beginWord_starting (s : State) (o : Operation) : (s.beginWord o).starting = s.starting := rfl
@[simp] theorem State.beginWord_overrun (s : State) (o : Operation) : (s.beginWord o).overrun = s.overrun := rfl
@[simp] theorem State.beginWord_windowFault (s : State) (o : Operation) :
    (s.beginWord o).windowFault = s.windowFault := rfl
@[simp] theorem State.beginWord_pointer (s : State) (o : Operation) : (s.beginWord o).pointer = s.pointer := rfl
@[simp] theorem State.beginWord_slotSelect (s : State) (o : Operation) :
    (s.beginWord o).slotSelect = s.slotSelect := rfl
@[simp] theorem State.beginWord_control (s : State) (o : Operation) : (s.beginWord o).control = s.control := rfl
@[simp] theorem State.beginWord_timing (s : State) (o : Operation) : (s.beginWord o).timing = s.timing := rfl
@[simp] theorem State.beginWord_cmd (s : State) (o : Operation) : (s.beginWord o).cmd = s.cmd := rfl
@[simp] theorem State.beginWord_slots (s : State) (o : Operation) : (s.beginWord o).slots = s.slots := rfl
@[simp] theorem State.beginWord_arb (s : State) (o : Operation) : (s.beginWord o).arb = s.arb := rfl
@[simp] theorem State.beginWord_clear (s : State) (o : Operation) : (s.beginWord o).clear = s.clear := rfl
@[simp] theorem State.beginWord_op (s : State) (o : Operation) :
    (s.beginWord o).op = some { o with kind := s.drive o.slot o.kind, window := s.timing.responseWindow, phase := .begun } := rfl
@[simp] theorem State.beginWord_attention (s : State) (o : Operation) : (s.beginWord o).attention = s.attention := rfl
@[simp] theorem State.beginWord_inService (s : State) (o : Operation) : (s.beginWord o).inService = s.inService := rfl
@[simp] theorem State.beginWord_contexts (s : State) (o : Operation) : (s.beginWord o).contexts = s.contexts := rfl
@[simp] theorem State.beginWord_store (s : State) (o : Operation) : (s.beginWord o).store = s.store := rfl
@[simp] theorem State.beginWord_freePages (s : State) (o : Operation) : (s.beginWord o).freePages = s.freePages := rfl
@[simp] theorem State.beginWord_events (s : State) (o : Operation) : (s.beginWord o).events = s.events := rfl
@[simp] theorem State.beginWord_pending (s : State) (o : Operation) : (s.beginWord o).pending = s.pending := rfl
@[simp] theorem State.beginWord_releaseHeld (s : State) (o : Operation) : (s.beginWord o).releaseHeld = s.releaseHeld := rfl
@[simp] theorem State.beginWord_slot (s : State) (o : Operation) (m : Slot) : (s.beginWord o).slot m = s.slot m := rfl
@[simp] theorem State.beginWord_context (s : State) (o : Operation) (m : Slot) :
    (s.beginWord o).context m = s.context m := rfl

/-! ## takeWord -/

@[simp] theorem State.takeWord_lines (s : State) (w : Word) : (s.takeWord w).lines = s.lines := rfl
@[simp] theorem State.takeWord_readData (s : State) (w : Word) : (s.takeWord w).readData = s.readData := rfl
@[simp] theorem State.takeWord_starting (s : State) (w : Word) : (s.takeWord w).starting = s.starting := rfl
@[simp] theorem State.takeWord_overrun (s : State) (w : Word) : (s.takeWord w).overrun = s.overrun := rfl
@[simp] theorem State.takeWord_windowFault (s : State) (w : Word) : (s.takeWord w).windowFault = s.windowFault := rfl
@[simp] theorem State.takeWord_pointer (s : State) (w : Word) : (s.takeWord w).pointer = s.pointer := rfl
@[simp] theorem State.takeWord_slotSelect (s : State) (w : Word) : (s.takeWord w).slotSelect = s.slotSelect := rfl
@[simp] theorem State.takeWord_control (s : State) (w : Word) : (s.takeWord w).control = s.control := rfl
@[simp] theorem State.takeWord_timing (s : State) (w : Word) : (s.takeWord w).timing = s.timing := rfl
@[simp] theorem State.takeWord_cmd (s : State) (w : Word) :
    (s.takeWord w).cmd = { s.cmd with code := w, resultData := 0 } := rfl
@[simp] theorem State.takeWord_slots (s : State) (w : Word) : (s.takeWord w).slots = s.slots := rfl
@[simp] theorem State.takeWord_arb (s : State) (w : Word) : (s.takeWord w).arb = s.arb := rfl
@[simp] theorem State.takeWord_clear (s : State) (w : Word) : (s.takeWord w).clear = s.clear := rfl
@[simp] theorem State.takeWord_op (s : State) (w : Word) : (s.takeWord w).op = s.op := rfl
@[simp] theorem State.takeWord_attention (s : State) (w : Word) : (s.takeWord w).attention = s.attention := rfl
@[simp] theorem State.takeWord_inService (s : State) (w : Word) : (s.takeWord w).inService = s.inService := rfl
@[simp] theorem State.takeWord_contexts (s : State) (w : Word) : (s.takeWord w).contexts = s.contexts := rfl
@[simp] theorem State.takeWord_store (s : State) (w : Word) : (s.takeWord w).store = s.store := rfl
@[simp] theorem State.takeWord_freePages (s : State) (w : Word) : (s.takeWord w).freePages = s.freePages := rfl
@[simp] theorem State.takeWord_events (s : State) (w : Word) : (s.takeWord w).events = s.events := rfl
@[simp] theorem State.takeWord_pending (s : State) (w : Word) : (s.takeWord w).pending = s.pending := rfl
@[simp] theorem State.takeWord_releaseHeld (s : State) (w : Word) : (s.takeWord w).releaseHeld = s.releaseHeld := rfl
@[simp] theorem State.takeWord_slot (s : State) (w : Word) (m : Slot) : (s.takeWord w).slot m = s.slot m := rfl
@[simp] theorem State.takeWord_context (s : State) (w : Word) (m : Slot) : (s.takeWord w).context m = s.context m := rfl

/-! ## elapse -/

@[simp] theorem State.elapse_lines (s : State) (k : Nat) : (s.elapse k).lines = s.lines := rfl
@[simp] theorem State.elapse_readData (s : State) (k : Nat) : (s.elapse k).readData = s.readData := rfl
@[simp] theorem State.elapse_starting (s : State) (k : Nat) : (s.elapse k).starting = s.starting := rfl
@[simp] theorem State.elapse_overrun (s : State) (k : Nat) : (s.elapse k).overrun = s.overrun := rfl
@[simp] theorem State.elapse_windowFault (s : State) (k : Nat) : (s.elapse k).windowFault = s.windowFault := rfl
@[simp] theorem State.elapse_pointer (s : State) (k : Nat) : (s.elapse k).pointer = s.pointer := rfl
@[simp] theorem State.elapse_slotSelect (s : State) (k : Nat) : (s.elapse k).slotSelect = s.slotSelect := rfl
@[simp] theorem State.elapse_control (s : State) (k : Nat) : (s.elapse k).control = s.control := rfl
@[simp] theorem State.elapse_timing (s : State) (k : Nat) : (s.elapse k).timing = s.timing := rfl
@[simp] theorem State.elapse_cmd (s : State) (k : Nat) : (s.elapse k).cmd = s.cmd := rfl
@[simp] theorem State.elapse_arb (s : State) (k : Nat) : (s.elapse k).arb = s.arb := rfl
@[simp] theorem State.elapse_clear (s : State) (k : Nat) : (s.elapse k).clear = s.clear := rfl
@[simp] theorem State.elapse_op (s : State) (k : Nat) : (s.elapse k).op = s.op := rfl
@[simp] theorem State.elapse_attention (s : State) (k : Nat) : (s.elapse k).attention = s.attention := rfl
@[simp] theorem State.elapse_inService (s : State) (k : Nat) : (s.elapse k).inService = s.inService := rfl
@[simp] theorem State.elapse_contexts (s : State) (k : Nat) : (s.elapse k).contexts = s.contexts := rfl
@[simp] theorem State.elapse_store (s : State) (k : Nat) : (s.elapse k).store = s.store := rfl
@[simp] theorem State.elapse_freePages (s : State) (k : Nat) : (s.elapse k).freePages = s.freePages := rfl
@[simp] theorem State.elapse_events (s : State) (k : Nat) : (s.elapse k).events = s.events := rfl
@[simp] theorem State.elapse_pending (s : State) (k : Nat) : (s.elapse k).pending = s.pending := rfl
@[simp] theorem State.elapse_releaseHeld (s : State) (k : Nat) : (s.elapse k).releaseHeld = s.releaseHeld := rfl
@[simp] theorem State.elapse_slot (s : State) (k : Nat) (m : Slot) : (s.elapse k).slot m = (s.slot m).elapse k := by
  simp [State.elapse, State.slot_def]
@[simp] theorem State.elapse_context (s : State) (k : Nat) (m : Slot) : (s.elapse k).context m = s.context m := rfl
@[simp] theorem SlotRecord.elapse_seat (r : SlotRecord) (k : Nat) : (r.elapse k).seat = r.seat := rfl
@[simp] theorem SlotRecord.elapse_timer (r : SlotRecord) (k : Nat) :
    (r.elapse k).timer = r.timer.map fun t => max 1 (t - k) := rfl
@[simp] theorem SlotRecord.elapse_ident (r : SlotRecord) (k : Nat) : (r.elapse k).ident = r.ident := rfl
@[simp] theorem SlotRecord.elapse_mode (r : SlotRecord) (k : Nat) : (r.elapse k).mode = r.mode := rfl
@[simp] theorem SlotRecord.elapse_errorCount (r : SlotRecord) (k : Nat) : (r.elapse k).errorCount = r.errorCount := rfl
@[simp] theorem SlotRecord.elapse_lastError (r : SlotRecord) (k : Nat) : (r.elapse k).lastError = r.lastError := rfl

end Sys2Proof.Machine
end

