-- ==== Sys2Proof/Laws/Ops.lean ====
section
/-! SUPPORT. One lemma for each shared operation that says once everything it can do. -/

namespace Sys2Proof.Machine

/-! ## Vectors over the slots -/

/-- Every slot is among the slots in ascending order. -/
theorem mem_allSlots (n : Slot) : n ∈ allSlots := by revert n; decide

/-- Putting back what stands in a place changes nothing. -/
theorem vector_set_get {α : Type} (v : Vector α 8) (n : Slot) : v.set n v[n] = v := Vector.set_getElem_self _

/-- What stands in a place after a place is set. -/
theorem vector_get_set {α : Type} (v : Vector α 8) (n m : Slot) (x : α) :
    (v.set n x)[m] = if n = m then x else v[m] := by
  simp [Vector.getElem_set, Fin.ext_iff]

/-- Two vectors with the same in every place are the same. -/
theorem vector_ext_slot {α : Type} {v w : Vector α 8} (h : ∀ n : Slot, v[n] = w[n]) : v = w :=
  Vector.ext fun i hi => h ⟨i, hi⟩

/-- Putting back a slot's record changes nothing. -/
theorem State.set_slot_self (s : State) (n : Slot) : s.slots.set n (s.slot n) = s.slots := vector_set_get _ _

/-- Putting back a slot's context changes nothing. -/
theorem State.set_context_self (s : State) (n : Slot) : s.contexts.set n (s.context n) = s.contexts :=
  vector_set_get _ _

/-! ## Transfer engine -/

/-- A transfer that is not ARMED is not halted. -/
theorem Transfer.haltIfArmed_of_ne {x : Transfer} (h : x.phase ≠ .armed) (r : HaltReason) : x.haltIfArmed r = x := by
  simp [Transfer.haltIfArmed, h]

/-- Halting (R102): the context as `Transfer.haltIfArmed` has it and its HALTED entry at the tail. -/
theorem State.halt_eq (s : State) (n : Slot) (r : HaltReason) :
    s.halt n r =
      { s with
        contexts := s.contexts.set n { s.context n with
          transfer := (s.context n).transfer.map fun x => x.haltIfArmed r }
        events := s.events ++ s.haltEntries n r } := by
  have keep : ∀ t, (s.context n).transfer = t →
      s.contexts.set n ⟨t, (s.context n).abortPending⟩ = s.contexts := by
    rintro t rfl
    exact s.set_context_self n
  unfold State.halt State.haltEntries
  rcases hx : (s.context n).transfer with _ | x
  · simp [keep _ hx]
  · by_cases ha : x.phase = .armed
    · simp [ha, Transfer.haltIfArmed, haltedEntry, State.setTransfer, State.setContext, State.reportTransfer]
    · simp [ha, Transfer.haltIfArmed, keep _ hx]

/-- Settling a waiting ABORT (R108), where abort pending is clear: nothing happens. -/
theorem State.settleAbort_of_clear (s : State) (n : Slot) (h : (s.context n).abortPending = false) :
    s.settleAbort n = s := by
  simp [State.settleAbort, h]

/-- Settling a waiting ABORT of an ended transfer (R108): ALREADY_DONE with the count, or OVERTAKEN with moved. -/
theorem State.settleAbort_of_ended (s : State) (n : Slot) (x : Transfer) (h : (s.context n).abortPending = true)
    (hx : (s.context n).transfer = some x) (hd : x.phase = .done ∨ ∃ r, x.phase = .halted r) :
    s.settleAbort n =
      { s with
        contexts := s.contexts.set n { transfer := some x, abortPending := false }
        cmd := { s.cmd with
          executing := none
          result := if x.phase = .done then .alreadyDone else .overtaken
          resultData := BitVec.ofNat 16 (if x.phase = .done then x.count else x.moved) } } := by
  rcases hd with hd | ⟨r, hd⟩ <;>
    simp [State.settleAbort, h, hx, hd, State.complete, State.setContext]

/-- Settling a waiting ABORT of an ARMED transfer (R108): HALTED (ABORTED), its entry, and OK with moved. -/
theorem State.settleAbort_of_armed (s : State) (n : Slot) (x : Transfer) (h : (s.context n).abortPending = true)
    (hx : (s.context n).transfer = some x) (ha : x.phase = .armed) :
    s.settleAbort n =
      { s with
        contexts := s.contexts.set n { transfer := some { x with phase := .halted .aborted }, abortPending := false }
        events := s.events ++ [haltedEntry n x .aborted]
        cmd := { s.cmd with executing := none, result := .ok, resultData := BitVec.ofNat 16 x.moved } } := by
  unfold State.settleAbort
  simp only [h, hx, ha, State.halt_eq]
  simp [State.setContext, State.context_def, State.complete, State.haltEntries, Transfer.haltIfArmed, ha]

/-- A received word joins the store at the address of offset moved (R34). -/
theorem State.storeReceived_of_address (s : State) (x : Transfer) (data : Word) (a : Nat)
    (h : x.address x.moved = some a) : s.storeReceived x data = { s with store := s.store.write a data } := by
  simp [State.storeReceived, h]

/-- A word moved (R99): moved rises by 1; a BURST_IN word joins the store at offset moved. -/
theorem State.moveWord_short (s : State) (n : Slot) (d : Direction) (data : Word) (x : Transfer) (a : Nat)
    (hx : (s.context n).transfer = some x) (ha : x.phase = .armed) (hw : x.address x.moved = some a)
    (hm : x.moved + 1 ≠ x.count) :
    s.moveWord n d data =
      { s with
        store := if d = .input then s.store.write a data else s.store
        contexts := s.contexts.set n { s.context n with transfer := some { x with moved := x.moved + 1 } } } := by
  unfold State.moveWord
  cases d <;> simp only [hx, ha, hm, if_true, if_false, State.storeReceived, hw] <;> rfl

/-- The last word moved (R100): DONE, its entry at the tail, the slot's count 0. -/
theorem State.moveWord_last (s : State) (n : Slot) (d : Direction) (data : Word) (x : Transfer) (a : Nat)
    (hx : (s.context n).transfer = some x) (ha : x.phase = .armed) (hw : x.address x.moved = some a)
    (hm : x.moved + 1 = x.count) :
    s.moveWord n d data =
      { s with
        store := if d = .input then s.store.write a data else s.store
        slots := s.slots.set n { s.slot n with errorCount := 0 }
        contexts := s.contexts.set n { s.context n with
          transfer := some { x with moved := x.count, phase := .done } }
        events := s.events ++ [.transfer n .done x.tag x.direction x.count] } := by
  unfold State.moveWord
  cases d <;> simp only [hx, ha, hm, if_true, State.storeReceived, hw] <;> rfl

/-! ## Seat monitor -/

/-- A counted error (R115, R116). -/
theorem State.countError_eq (s : State) (n : Slot) (e : LastError)
    (h : (s.slot n).seat = .online ∨ (s.slot n).seat = .fenced) :
    s.countError n e =
      { s with slots := s.slots.set n { s.slot n with
          errorCount := if (s.slot n).errorCount < 15 then (s.slot n).errorCount + 1 else 15
          lastError := some e } } := by
  have : min Config.maxErrorCount ((s.slot n).errorCount + 1) =
      if (s.slot n).errorCount < 15 then (s.slot n).errorCount + 1 else 15 := by
    unfold Config.maxErrorCount
    split <;> omega
  simp [State.countError, h, this, State.setSlot]

/-- The judgement of a slot (R118, R120, R122): a slot at or above the threshold is fenced, HALTED before FENCED; any
other stays as it is. -/
theorem State.judge_eq (s : State) (n : Slot) (k : Option ErrorKind) :
    s.judge n k =
      if (s.slot n).fencedAt s.control.threshold then
        { s with
          slots := s.slots.set n { s.slot n with seat := .fenced }
          contexts := s.contexts.set n { s.context n with
            transfer := (s.context n).transfer.map fun x => x.haltIfArmed .fenced }
          events := insertSeat n (.fenced k) (s.events ++ s.haltEntries n .fenced) }
      else s := by
  unfold State.judge SlotRecord.fencedAt
  by_cases h : (s.slot n).seat = .online ∧ s.control.threshold ≤ (s.slot n).errorCount
  · rw [if_pos h, if_pos (by simpa using h), State.halt_eq]
    rfl
  · rw [if_neg h, if_neg (by simpa using h)]

/-- A slot goes to SETTLING (R3, R4). -/
theorem State.enterSettling_eq (s : State) (n : Slot) :
    s.enterSettling n =
      { s with slots := s.slots.set n { s.slot n with
          seat := .settling, timer := some (s.timing.settleTime * 1000), errorCount := 0, lastError := none } } := rfl

/-! ## Event queue -/

/-- A SEAT-class change keeps every TRANSFER-class entry. -/
theorem insertSeat_isTransferOf (n m : Slot) (c : SeatChange) (es : List Event) :
    (insertSeat n c es).filter (Event.isTransferOf m) = es.filter (Event.isTransferOf m) := by
  induction es with
  | nil => rfl
  | cons e rest ih =>
    cases e with
    | seat k old j =>
      by_cases h : k = n
      · subst h; simp only [insertSeat, if_true]; rfl
      · simp only [insertSeat, h, if_false, List.filter_cons, ih]
    | transfer k e t d w => simp only [insertSeat, List.filter_cons, ih]

/-- A SEAT-class change of one slot keeps the entries of the others (R130). -/
theorem insertSeat_isSeatOf_other {n m : Slot} (h : n ≠ m) (c : SeatChange) (es : List Event) :
    (insertSeat n c es).filter (Event.isSeatOf m) = es.filter (Event.isSeatOf m) := by
  induction es with
  | nil => simp [insertSeat, Event.isSeatOf, h]
  | cons e rest ih =>
    cases e with
    | seat k old j =>
      by_cases hk : k = n
      · subst hk; simp [insertSeat, Event.isSeatOf, h]
      · simp only [insertSeat, hk, if_false, List.filter_cons, ih]
    | transfer k e t d w => simp only [insertSeat, List.filter_cons, ih]

/-- A SEAT-class change leaves its slot with one entry (R128). -/
theorem insertSeat_isSeatOf_self (n : Slot) (c : SeatChange) (es : List Event)
    (h : (es.filter (Event.isSeatOf n)).length ≤ 1) :
    ((insertSeat n c es).filter (Event.isSeatOf n)).length = 1 := by
  induction es with
  | nil => simp [insertSeat, Event.isSeatOf]
  | cons e rest ih =>
    cases e with
    | seat k old j =>
      by_cases hk : k = n
      · subst hk; simpa [insertSeat, Event.isSeatOf] using h
      · simpa [insertSeat, hk, Event.isSeatOf] using ih (by simpa [Event.isSeatOf, hk] using h)
    | transfer k e t d w =>
      simpa [insertSeat, Event.isSeatOf] using ih (by simpa [Event.isSeatOf] using h)

/-- The entries after a SEAT-class change: the slot's own with the new change, or entries that stood before (R130). -/
theorem mem_insertSeat {n : Slot} {c : SeatChange} {es : List Event} {e : Event} (h : e ∈ insertSeat n c es) :
    (∃ k, e = .seat n c k ∧ 1 ≤ k ∧ k ≤ 15) ∨ e ∈ es := by
  induction es with
  | nil => simp [insertSeat] at h; exact .inl ⟨1, h, by decide, by decide⟩
  | cons a rest ih =>
    cases a with
    | seat m old k =>
      by_cases hm : m = n
      · subst hm
        simp only [insertSeat, if_true, List.mem_cons] at h
        rcases h with rfl | h
        · refine .inl ⟨_, rfl, ?_, ?_⟩ <;> unfold Config.maxChanges <;> omega
        · exact .inr (List.mem_cons_of_mem _ h)
      · simp only [insertSeat, hm, if_false, List.mem_cons] at h
        rcases h with rfl | h
        · exact .inr (List.mem_cons_self ..)
        · exact (ih h).imp id (List.mem_cons_of_mem _)
    | transfer m e' t d w =>
      simp only [insertSeat, List.mem_cons] at h
      rcases h with rfl | h
      · exact .inr (List.mem_cons_self ..)
      · exact (ih h).imp id (List.mem_cons_of_mem _)

/-! ## Arbiter and sequencer -/

/-- What a new word cycle drives: nothing but the data of a BURST_OUT changes in the operation's kind (R25, R33). -/
theorem State.drive_eq (s : State) (n : Slot) (kind : OperationKind) :
    (∀ w, kind = .identify w → s.drive n kind = kind) ∧ (kind = .acknowledge → s.drive n kind = kind) ∧
      ∀ b, kind = .burst b →
        s.drive n kind = .burst { b with driven := if b.direction = .output then s.nextWord n else none } := by
  refine ⟨?_, ?_, ?_⟩
  · rintro w rfl; rfl
  · rintro rfl; rfl
  · rintro b rfl
    simp only [State.drive]
    cases b.direction <;> simp

/-- A choice changes the operation record and the seat state of an identify candidate, and nothing else (R24, R7). -/
theorem State.start_frame (s : State) (c : Choice) :
    s.start c = { s with op := (s.start c).op, slots := (s.start c).slots } := by
  cases c with
  | identify n => rfl
  | acknowledge n => rfl
  | burst n =>
    simp only [State.start]
    split <;> rfl

/-- That a COMMAND word was taken is no event at which the arbiter chooses (R53). -/
theorem react_takeWord (s t : State) (w : Word) : react (s.takeWord w) t = react s t := rfl

/-- Where nothing has changed there is no event, and no choice (R53). -/
theorem react_self (s : State) : react s s = s := by
  have : choiceDue s s = false := by simp [choiceDue, newClaim]
  simp [react, this]

/-- What an event and its choice leave: all but the operation record and the seat states as the event left them. -/
theorem react_frame (before after : State) :
    react before after =
      { after with op := (react before after).op, slots := (react before after).slots } := by
  unfold react
  split
  · unfold State.choose
    split
    · split
      · exact State.start_frame _ _
      · rfl
    · rfl
  · rfl

/-- Where the arbiter may not choose, an event is its own effects alone (R53). -/
theorem react_of_not_mayChoose {before after : State} (h : after.mayChoose = false) : react before after = after := by
  simp [react, State.choose, h]

/-- Where no slot holds a claim, an event is its own effects alone (R53). -/
theorem react_of_no_choice {before after : State} (h : after.choice = none) : react before after = after := by
  unfold react State.choose
  split <;> simp [h]

/-- The end of an operation touches the arbiter and the command unit alone. -/
theorem State.operationEnd_frame (s : State) (kind : OperationKind) (n : Slot) :
    s.operationEnd kind n =
      { s with arb := (s.operationEnd kind n).arb, cmd := (s.operationEnd kind n).cmd } := by
  unfold State.operationEnd State.completeHold
  by_cases h : s.arb.hold = .holding <;> cases kind <;> simp only [State.updateTurn, h, if_true, if_false] <;> rfl

/-- Outside HOLDING the end of an operation is what it does to turn and origin (R49, R50). -/
theorem State.operationEnd_of_not_holding (s : State) (kind : OperationKind) (n : Slot) (h : s.arb.hold ≠ .holding) :
    s.operationEnd kind n = s.updateTurn kind n := by
  unfold State.operationEnd State.completeHold
  cases kind <;> exact if_neg h

/-- What the end of an operation does to turn and origin: order and hold state stay (R49, R50). -/
theorem State.updateTurn_frame (s : State) (kind : OperationKind) (n : Slot) :
    ∃ origin turn, s.updateTurn kind n = { s with arb := { s.arb with origin := origin, turn := turn } } := by
  cases kind
  · exact ⟨s.arb.origin, s.arb.turn, rfl⟩
  · exact ⟨s.arb.origin, .transfer, rfl⟩
  · exact ⟨_, .attention, rfl⟩

/-- A cut with no operation in flight does nothing (R38). -/
theorem State.cut_of_none (s : State) (h : s.op = none) : s.cut = s := by simp [State.cut, h]

/-- A cut of an operation is its end at the arbiter (R38, R40). -/
theorem State.cut_of_some (s : State) (o : Operation) (h : s.op = some o) :
    s.cut = { s with op := none }.operationEnd o.kind o.slot := by simp [State.cut, h]

/-- A cut ends the operation in flight and touches the arbiter and the command unit beside (R38). -/
theorem State.cut_frame (s : State) : s.cut = { s with op := none, arb := s.cut.arb, cmd := s.cut.cmd } := by
  rcases ho : s.op with _ | o
  · rw [State.cut_of_none s ho]
    cases s
    cases ho
    rfl
  · rw [State.cut_of_some s o ho]
    exact State.operationEnd_frame _ _ _

/-- Outside HOLDING a cut touches origin and turn of the arbiter alone (R38, R49, R50). -/
theorem State.cut_of_not_holding (s : State) (h : s.arb.hold ≠ .holding) :
    ∃ origin turn, s.cut = { s with op := none, arb := { s.arb with origin := origin, turn := turn } } := by
  rcases ho : s.op with _ | o
  · refine ⟨s.arb.origin, s.arb.turn, ?_⟩
    rw [State.cut_of_none s ho]
    cases s
    cases ho
    rfl
  · rw [State.cut_of_some s o ho]
    obtain ⟨origin, turn, e⟩ := State.updateTurn_frame { s with op := none } o.kind o.slot
    refine ⟨origin, turn, ?_⟩
    rw [State.operationEnd_of_not_holding _ _ _ (by exact h), e]

/-- The end of a burst (R49, R50, R56) does not depend on what the burst moved. -/
theorem State.operationEnd_burst (s : State) (b b' : Burst) (n : Slot) :
    s.operationEnd (.burst b) n = s.operationEnd (.burst b') n := rfl

/-- The settling of a burst's context, and then of a waiting ABORT (R101, R108, R120, R122). -/
theorem State.judge_settleAbort_eq (s : State) (n : Slot) (x : Transfer) (detail : Option ErrorKind)
    (hx : (s.context n).transfer = some x) (ha : x.phase = .armed) :
    (s.judge n detail).settleAbort n = s.burstSettled n x detail := by
  have hne : ∀ r : HaltReason, Phase.halted r ≠ .done := by intro r h; cases h
  rw [State.judge_eq]
  unfold State.burstSettled
  by_cases hf : (s.slot n).fencedAt s.control.threshold = true
  · rw [if_pos hf]
    rcases hp : (s.context n).abortPending with _ | _
    · rw [State.settleAbort_of_clear _ _ (by simpa [State.context_def] using hp)]
      simp [hf, hx, ha, Transfer.haltIfArmed, State.haltEntries, hp]
    · rw [State.settleAbort_of_ended _ n (x.haltIfArmed .fenced) (by simpa [State.context_def] using hp)
        (by simpa [State.context_def] using ⟨x, hx, rfl⟩)
        (.inr ⟨.fenced, by simp [Transfer.haltIfArmed, ha]⟩)]
      simp [hf, hx, ha, Transfer.haltIfArmed, State.haltEntries]
  · rw [if_neg hf]
    have hf' : (s.slot n).fencedAt s.control.threshold = false := by simpa using hf
    rcases hp : (s.context n).abortPending with _ | _
    · rw [State.settleAbort_of_clear _ _ hp]
      have : s.contexts.set n { transfer := some x, abortPending := false } = s.contexts := by
        rw [← hx, ← hp]
        exact s.set_context_self n
      simp [hf', this]
    · rw [State.settleAbort_of_armed _ _ x hp hx ha]
      simp [hf']

/-- The settling of a burst's context leaves the records of the other slots. -/
theorem State.burstSettled_slot_other (s : State) {n m : Slot} (h : n ≠ m) (x : Transfer) (detail : Option ErrorKind) :
    (s.burstSettled n x detail).slot m = s.slot m := by
  have : ∀ c : Bool, (if c then s.slots.set n { s.slot n with seat := .fenced } else s.slots)[m] = s.slots[m] := by
    intro c
    cases c
    · rfl
    · exact (vector_get_set _ n m _).trans (if_neg h)
  exact this _

/-- The settling of a burst's context leaves the contexts of the other slots. -/
theorem State.burstSettled_context_other (s : State) {n m : Slot} (h : n ≠ m) (x : Transfer)
    (detail : Option ErrorKind) : (s.burstSettled n x detail).context m = s.context m :=
  (vector_get_set _ n m _).trans (if_neg h)

/-- A burst's context where its slot is not fenced and no ABORT waits: nothing happens (R101). -/
theorem State.burstSettled_of_kept (s : State) (n : Slot) (x : Transfer) (detail : Option ErrorKind)
    (hf : (s.slot n).fencedAt s.control.threshold = false) (hp : (s.context n).abortPending = false)
    (hx : (s.context n).transfer = some x) : s.burstSettled n x detail = s := by
  have : s.contexts.set n { transfer := some x, abortPending := false } = s.contexts := by
    rw [← hx, ← hp]
    exact s.set_context_self n
  simp [State.burstSettled, hf, hp, this]

/-- A burst's context where its slot is not fenced and an ABORT waits: HALTED (ABORTED), OK with moved (R108). -/
theorem State.burstSettled_of_aborted (s : State) (n : Slot) (x : Transfer) (detail : Option ErrorKind)
    (hf : (s.slot n).fencedAt s.control.threshold = false) (hp : (s.context n).abortPending = true) :
    s.burstSettled n x detail =
      { s with
        contexts := s.contexts.set n { transfer := some { x with phase := .halted .aborted }, abortPending := false }
        events := s.events ++ [haltedEntry n x .aborted]
        cmd := { s.cmd with executing := none, result := .ok, resultData := BitVec.ofNat 16 x.moved } } := by
  simp [State.burstSettled, hf, hp]

/-! ## The word cycle from its reply to its end -/

@[simp] theorem WordPhase.answer_begun : WordPhase.begun.answer = none := rfl
@[simp] theorem WordPhase.answer_strobed : WordPhase.strobed.answer = none := rfl
@[simp] theorem WordPhase.answer_answered (a : Answer) : (WordPhase.answered a).answer = some a := rfl
@[simp] theorem WordPhase.answer_released (a : Answer) : (WordPhase.released a).answer = some a := rfl

/-- A word cycle has taken an answer exactly in phase 4 and in phase 5 (R25). -/
theorem WordPhase.answer_eq_some (p : WordPhase) (a : Answer) : p.answer = some a ↔ p = .answered a ∨ p = .released a := by
  cases p <;> simp [WordPhase.answer]

/-- Where the reply has been taken, the word cycle ends as that reply settled it (R25, R27). -/
theorem State.finishWord_of_answer {s : State} {o : Operation} {a : Answer} (h : s.op = some o)
    (hp : o.phase.answer = some a) : s.finishWord = s.endWord o a := by
  simp [State.finishWord, h, hp]

/-- Where no reply has been taken, no word cycle ends (R25). -/
theorem State.finishWord_of_no_answer {s : State} (h : ∀ o, s.op = some o → o.phase.answer = none) :
    s.finishWord = s := by
  unfold State.finishWord
  split
  · next o ho => simp [h o ho]
  · rfl

/-- A reply that moves no burst word changes the phase of its word cycle alone (R27, R28). -/
theorem State.takeReply_of_kept (s : State) (o : Operation) (a : Answer)
    (h : ∀ b, o.kind = .burst b → a.moves b.direction = false) :
    s.takeReply o a = { s with op := some { o with phase := .answered a } } := by
  unfold State.takeReply
  split
  · rfl
  · rfl
  · next b hb => simp [h b hb]

/-- A reply that moves a burst word applies it at once and counts it in the burst (R33, R34, R99). -/
theorem State.takeReply_of_moved (s : State) (o : Operation) (a : Answer) (b : Burst) (hb : o.kind = .burst b)
    (h : a.moves b.direction = true) :
    s.takeReply o a =
      { s.moveWord o.slot b.direction a.data with
        op := some { o with kind := .burst { b with moved := b.moved + 1 }, phase := .answered a } } := by
  simp [State.takeReply, hb, h]

/-- On an empty queue phase 4 gives way to phase 5 (R25, log 12). -/
theorem State.idle_of_answered {s : State} {o : Operation} {a : Answer} (h : s.op = some o)
    (hp : o.phase = .answered a) : s.idle = s.releaseWord o a := by
  simp [State.idle, h, hp]

/-- On an empty queue phase 5 gives way to the end of the word cycle, and the arbiter takes the end (R25, log 12). -/
theorem State.idle_of_released {s : State} {o : Operation} {a : Answer} (h : s.op = some o)
    (hp : o.phase = .released a) : s.idle = react s (s.endWord o a) := by
  rw [← State.finishWord_of_answer h (by simp [hp])]
  simp [State.idle, h, hp]

/-- On an empty queue with no reply taken a microsecond passes (log 4). -/
theorem State.idle_of_no_answer {s : State} (h : ∀ o, s.op = some o → o.phase.answer = none) :
    s.idle = s.microsecond := by
  unfold State.idle
  split
  · next o ho =>
    have := h o ho
    split <;> simp_all
  · rfl

/-- The release drives neither strobe nor data lines, in any operation (R25). -/
theorem State.releaseWord_lines (s : State) (o : Operation) (a : Answer) :
    (s.releaseWord o a).strobe = false ∧ (s.releaseWord o a).dataLines = none := by
  refine ⟨rfl, ?_⟩
  rcases o with ⟨k, _⟩
  cases k <;> rfl

end Sys2Proof.Machine
end

