-- ==== Sys2Proof/Laws/Frames.lean ====
section
/-! SUPPORT. What the shared operations leave alone: the input lines, what the host has set, the free page list, the store
and the waiting commands. -/

namespace Sys2Proof.Machine

/-- `t` has what `s` has in everything that only the host's own accesses, the lines and the commands OPEN, CLOSE, SET ORDER
and SET MODE set, and the same store words. -/
structure State.keeps (s t : State) : Prop where
  lines : t.lines = s.lines
  readData : t.readData = s.readData
  starting : t.starting = s.starting
  overrun : t.overrun = s.overrun
  windowFault : t.windowFault = s.windowFault
  pointer : t.pointer = s.pointer
  slotSelect : t.slotSelect = s.slotSelect
  control : t.control = s.control
  timing : t.timing = s.timing
  order : t.arb.order = s.arb.order
  store : t.store = s.store
  freePages : t.freePages = s.freePages
  releaseHeld : t.releaseHeld = s.releaseHeld
  pending : t.pending = s.pending
  mode : ∀ n : Slot, (t.slot n).mode = (s.slot n).mode

theorem State.keeps_refl (s : State) : s.keeps s :=
  ⟨rfl, rfl, rfl, rfl, rfl, rfl, rfl, rfl, rfl, rfl, rfl, rfl, rfl, rfl, fun _ => rfl⟩

theorem State.keeps.trans {s t u : State} (h : s.keeps t) (h' : t.keeps u) : s.keeps u :=
  ⟨h'.lines.trans h.lines, h'.readData.trans h.readData, h'.starting.trans h.starting, h'.overrun.trans h.overrun,
    h'.windowFault.trans h.windowFault, h'.pointer.trans h.pointer, h'.slotSelect.trans h.slotSelect,
    h'.control.trans h.control, h'.timing.trans h.timing, h'.order.trans h.order, h'.store.trans h.store,
    h'.freePages.trans h.freePages, h'.releaseHeld.trans h.releaseHeld, h'.pending.trans h.pending,
    fun n => (h'.mode n).trans (h.mode n)⟩

/-! ## Primitive updates -/

theorem State.keeps_setSlot (s : State) (n : Slot) (r : SlotRecord) (h : r.mode = (s.slot n).mode) :
    s.keeps (s.setSlot n r) := by
  refine ⟨rfl, rfl, rfl, rfl, rfl, rfl, rfl, rfl, rfl, rfl, rfl, rfl, rfl, rfl, fun m => ?_⟩
  rw [State.slot_setSlot]
  split
  · next e => rw [← e, h]
  · rfl

theorem State.keeps_setContext (s : State) (n : Slot) (c : Context) : s.keeps (s.setContext n c) :=
  ⟨rfl, rfl, rfl, rfl, rfl, rfl, rfl, rfl, rfl, rfl, rfl, rfl, rfl, rfl, fun _ => rfl⟩

theorem State.keeps_reportSeat (s : State) (n : Slot) (c : SeatChange) : s.keeps (s.reportSeat n c) :=
  ⟨rfl, rfl, rfl, rfl, rfl, rfl, rfl, rfl, rfl, rfl, rfl, rfl, rfl, rfl, fun _ => rfl⟩

theorem State.keeps_complete (s : State) (r : Result) (d : Word) : s.keeps (s.complete r d) :=
  ⟨rfl, rfl, rfl, rfl, rfl, rfl, rfl, rfl, rfl, rfl, rfl, rfl, rfl, rfl, fun _ => rfl⟩

theorem State.keeps_execute (s : State) : s.keeps s.execute :=
  ⟨rfl, rfl, rfl, rfl, rfl, rfl, rfl, rfl, rfl, rfl, rfl, rfl, rfl, rfl, fun _ => rfl⟩

theorem State.keeps_takeWord (s : State) (w : Word) : s.keeps (s.takeWord w) :=
  ⟨rfl, rfl, rfl, rfl, rfl, rfl, rfl, rfl, rfl, rfl, rfl, rfl, rfl, rfl, fun _ => rfl⟩

theorem State.keeps_op (s : State) (o : Option Operation) : s.keeps { s with op := o } :=
  ⟨rfl, rfl, rfl, rfl, rfl, rfl, rfl, rfl, rfl, rfl, rfl, rfl, rfl, rfl, fun _ => rfl⟩

theorem State.keeps_halt (s : State) (n : Slot) (r : HaltReason) : s.keeps (s.halt n r) := by
  rw [State.halt_eq]
  exact ⟨rfl, rfl, rfl, rfl, rfl, rfl, rfl, rfl, rfl, rfl, rfl, rfl, rfl, rfl, fun _ => rfl⟩

theorem State.keeps_settleAbort (s : State) (n : Slot) : s.keeps (s.settleAbort n) := by
  unfold State.settleAbort
  simp only []
  split
  · split
    · exact (s.keeps_setContext n _).trans (State.keeps_complete _ _ _)
    · exact (s.keeps_setContext n _).trans (State.keeps_complete _ _ _)
    · exact ((s.keeps_setContext n _).trans (State.keeps_halt _ _ _)).trans (State.keeps_complete _ _ _)
    · exact s.keeps_setContext n _
  · exact s.keeps_refl

theorem State.keeps_countError (s : State) (n : Slot) (e : LastError) : s.keeps (s.countError n e) := by
  unfold State.countError
  split
  · exact s.keeps_setSlot n _ rfl
  · exact s.keeps_refl

theorem State.keeps_judge (s : State) (n : Slot) (k : Option ErrorKind) : s.keeps (s.judge n k) := by
  unfold State.judge
  split
  · refine State.keeps.trans (State.keeps.trans ?_ (State.keeps_halt _ _ _)) (State.keeps_reportSeat _ _ _)
    exact s.keeps_setSlot n _ rfl
  · exact s.keeps_refl

theorem State.keeps_enterSettling (s : State) (n : Slot) : s.keeps (s.enterSettling n) := s.keeps_setSlot n _ rfl

theorem State.keeps_failIdentify (s : State) (n : Slot) (k : ErrorKind) (i : Nat) : s.keeps (s.failIdentify n k i) := by
  refine State.keeps.trans ?_ (State.keeps_reportSeat _ _ _)
  exact s.keeps_setSlot n _ rfl

theorem State.keeps_appendVector (s : State) (n : Slot) (v : Word) : s.keeps (s.appendVector n v) :=
  ⟨rfl, rfl, rfl, rfl, rfl, rfl, rfl, rfl, rfl, rfl, rfl, rfl, rfl, rfl, fun _ => rfl⟩

theorem State.keeps_purge (s : State) (n : Slot) : s.keeps (s.purge n) :=
  ⟨rfl, rfl, rfl, rfl, rfl, rfl, rfl, rfl, rfl, rfl, rfl, rfl, rfl, rfl, fun _ => rfl⟩

/-- A received word changes the store alone (R34). -/
theorem State.keeps_storeReceived (s : State) (x : Transfer) (w : Word) :
    State.keeps { s with store := (s.storeReceived x w).store } (s.storeReceived x w) := by
  rcases h : x.address x.moved with _ | a
  · have : s.storeReceived x w = s := by simp [State.storeReceived, h]
    rw [this]
    exact s.keeps_refl
  · rw [State.storeReceived_of_address s x w a h]
    exact ⟨rfl, rfl, rfl, rfl, rfl, rfl, rfl, rfl, rfl, rfl, rfl, rfl, rfl, rfl, fun _ => rfl⟩

/-- A word moved changes the store, beside the slot's context, the event queue and the slot's count (R34, R99, R100). -/
theorem State.keeps_moveWord (s : State) (n : Slot) (d : Direction) (w : Word) :
    State.keeps { s with store := (s.moveWord n d w).store } (s.moveWord n d w) := by
  have same : State.keeps { s with store := s.store } s := s.keeps_refl
  unfold State.moveWord
  split
  · next x _ =>
    split
    · have h : ∀ s' : State, State.keeps { s with store := s'.store } s' →
          State.keeps
            { s with store :=
                (if x.moved + 1 = x.count then
                  ((s'.setTransfer n { x with moved := x.moved + 1, phase := .done }).reportTransfer n .done x
                    x.count).clearErrors n
                 else s'.setTransfer n { x with moved := x.moved + 1 }).store }
            (if x.moved + 1 = x.count then
              ((s'.setTransfer n { x with moved := x.moved + 1, phase := .done }).reportTransfer n .done x
                x.count).clearErrors n
             else s'.setTransfer n { x with moved := x.moved + 1 }) := by
        intro s' h
        split
        · refine h.trans (State.keeps.trans ?_ (State.keeps_setSlot _ n _ rfl))
          exact ⟨rfl, rfl, rfl, rfl, rfl, rfl, rfl, rfl, rfl, rfl, rfl, rfl, rfl, rfl, fun _ => rfl⟩
        · exact h.trans (State.keeps_setContext _ _ _)
      cases d
      · exact h _ (s.keeps_storeReceived x w)
      · exact h s same
    · exact same
  · exact same

/-! ## Arbiter and sequencer -/

theorem State.keeps_beginWord (s : State) (o : Operation) : s.keeps (s.beginWord o) := s.keeps_op _

theorem State.keeps_start (s : State) (c : Choice) : s.keeps (s.start c) := by
  cases c with
  | identify n =>
    refine State.keeps.trans ?_ (State.keeps_op _ _)
    exact s.keeps_setSlot n _ rfl
  | acknowledge n => exact s.keeps_op _
  | burst n =>
    simp only [State.start]
    split
    · exact s.keeps_op _
    · exact s.keeps_refl

theorem State.keeps_choose (s : State) : s.keeps s.choose := by
  unfold State.choose
  split
  · split
    · exact s.keeps_start _
    · exact s.keeps_refl
  · exact s.keeps_refl

theorem State.keeps_react (s t : State) : t.keeps (react s t) := by
  unfold react
  split
  · exact t.keeps_choose
  · exact t.keeps_refl

theorem State.keeps_operationEnd (s : State) (k : OperationKind) (n : Slot) : s.keeps (s.operationEnd k n) := by
  unfold State.operationEnd State.completeHold
  cases k <;> split <;> exact ⟨rfl, rfl, rfl, rfl, rfl, rfl, rfl, rfl, rfl, rfl, rfl, rfl, rfl, rfl, fun _ => rfl⟩

theorem State.keeps_cut (s : State) : s.keeps s.cut := by
  unfold State.cut
  split
  · exact (s.keeps_op _).trans (State.keeps_operationEnd _ _ _)
  · exact s.keeps_refl

theorem State.keeps_identifyOutcome (s : State) (n : Slot) (c : IdentifyOutcome) : s.keeps (s.identifyOutcome n c) := by
  unfold State.identifyOutcome
  split
  · cases c with
    | good w0 w1 =>
      simp only []
      split
      · refine State.keeps.trans ?_ (State.keeps_reportSeat _ _ _)
        exact State.keeps_setSlot _ _ _ rfl
      · exact State.keeps_failIdentify _ _ _ _
    | error k i => exact State.keeps_failIdentify _ _ _ _
  · exact State.keeps_refl _

theorem State.keeps_endIdentify (s : State) (o : Operation) (c : IdentifyOutcome) : s.keeps (s.endIdentify o c) :=
  ((s.keeps_op none).trans (State.keeps_identifyOutcome _ _ _)).trans (State.keeps_operationEnd _ _ _)

theorem State.keeps_endAcknowledge (s : State) (o : Operation) (c : AcknowledgeOutcome) :
    s.keeps (s.endAcknowledge o c) := by
  refine ((s.keeps_op none).trans ?_).trans (State.keeps_operationEnd _ _ _)
  cases c with
  | vector w => exact State.keeps_appendVector _ _ _
  | withdrawn => exact State.keeps_refl _
  | error k => exact (State.keeps_countError _ _ _).trans (State.keeps_judge _ _ _)

theorem State.keeps_endBurst (s : State) (o : Operation) (c : EndCause) : s.keeps (s.endBurst o c) := by
  refine (((s.keeps_op none).trans ?_).trans (State.keeps_settleAbort _ _)).trans (State.keeps_operationEnd _ _ _)
  cases c with
  | sizeReached => exact State.keeps_judge _ _ _
  | cardStop => exact State.keeps_judge _ _ _
  | error k i => exact (State.keeps_countError _ _ _).trans (State.keeps_judge _ _ _)
  | boundary => exact State.keeps_judge _ _ _

theorem State.keeps_requestBoundary (s : State) (n : Slot) : s.keeps (s.requestBoundary n) := by
  unfold State.requestBoundary
  split
  · split
    · split
      · exact s.keeps_endBurst _ _
      · exact s.keeps_op _
      · exact s.keeps_op _
      · exact s.keeps_op _
    · exact s.keeps_refl
  · exact s.keeps_refl

theorem State.keeps_timeout (s : State) (o : Operation) : s.keeps (s.timeout o) := by
  unfold State.timeout
  split
  · exact s.keeps_endIdentify _ _
  · exact s.keeps_endAcknowledge _ _
  · exact s.keeps_endBurst _ _

theorem State.keeps_afterWord (s : State) (o : Operation) (b : Burst) : s.keeps (s.afterWord o b) := by
  unfold State.afterWord
  split
  · exact s.keeps_endBurst _ _
  · split
    · exact s.keeps_endBurst _ _
    · exact s.keeps_beginWord _

theorem State.keeps_endWord (s : State) (o : Operation) (a : Answer) : s.keeps (s.endWord o a) := by
  unfold State.endWord
  split
  · unfold State.endIdentifyWord
    split
    · split
      · split
        · exact s.keeps_beginWord _
        · exact s.keeps_endIdentify _ _
      · exact s.keeps_endIdentify _ _
    · exact s.keeps_endIdentify _ _
    · exact s.keeps_endIdentify _ _
  · unfold State.endAcknowledgeWord
    split
    · split <;> exact s.keeps_endAcknowledge _ _
    · exact s.keeps_endAcknowledge _ _
    · exact s.keeps_endAcknowledge _ _
  · unfold State.endBurstWord
    split
    · split
      · exact s.keeps_afterWord _ _
      · exact s.keeps_endBurst _ _
    · exact s.keeps_endBurst _ _
    · exact s.keeps_endBurst _ _

theorem State.keeps_finishWord (s : State) : s.keeps s.finishWord := by
  unfold State.finishWord
  split
  · split
    · exact s.keeps_endWord _ _
    · exact s.keeps_refl
  · exact s.keeps_refl

/-- A reply taken leaves the store, but for the word that a BURST_IN moves, which is a TAKE of good parity (R28, R34). -/
theorem State.keeps_takeReply (s : State) (o : Operation) (a : Answer) :
    s.keeps (s.takeReply o a) ∨
      ∃ b, o.kind = .burst b ∧ a.reply = .take ∧ (b.direction = .input → a.good = true) ∧
        (s.moveWord o.slot b.direction a.data).keeps (s.takeReply o a) := by
  unfold State.takeReply
  split
  · exact .inl (s.keeps_op _)
  · exact .inl (s.keeps_op _)
  · next b hb =>
    split
    · next h =>
      refine .inr ⟨b, hb, ?_, ?_, State.keeps_op _ _⟩
      · simp only [Answer.moves, Bool.and_eq_true, decide_eq_true_eq] at h
        exact h.1
      · intro hd
        simp [Answer.moves, hd] at h
        exact h.2
    · exact .inl (s.keeps_op _)

/-! ## Seating and the resets -/

theorem State.keeps_cutSlot (s : State) (n : Slot) : s.keeps (s.cutSlot n) := by
  unfold State.cutSlot
  split
  · split
    · exact s.keeps_finishWord.trans (State.keeps_cut _)
    · exact s.keeps_refl
  · exact s.keeps_refl

theorem State.keeps_remove (s : State) (n : Slot) : s.keeps (s.remove n) := by
  unfold State.remove
  refine State.keeps.trans (State.keeps.trans (State.keeps.trans (State.keeps.trans ?_
    (State.keeps_purge _ _)) (State.keeps_reportSeat _ _ _)) (State.keeps_halt _ _ _)) (State.keeps_settleAbort _ _)
  exact (s.keeps_cutSlot n).trans (State.keeps_setSlot _ n _ rfl)

/-- What holds of each step of a pass over some slots holds of the pass. -/
theorem State.keeps_foldl (f : State → Slot → State) (h : ∀ s n, State.keeps s (f s n)) (l : List Slot) (s : State) :
    s.keeps (l.foldl f s) := by
  induction l generalizing s with
  | nil => exact s.keeps_refl
  | cons n l ih => exact (h s n).trans (ih _)

theorem State.keeps_elapse (s : State) (k : Nat) : s.keeps (s.elapse k) :=
  ⟨rfl, rfl, rfl, rfl, rfl, rfl, rfl, rfl, rfl, rfl, rfl, rfl, rfl, rfl, fun n => by simp⟩

theorem State.keeps_expire (s : State) (n : Slot) : s.keeps (s.expire n) := by
  refine State.keeps.trans ?_ (State.keeps_react _ _)
  exact s.keeps_setSlot n _ rfl

theorem State.keeps_settleExpiry (s : State) (n : Slot) : s.keeps (s.settleExpiry n) := by
  unfold State.settleExpiry
  split
  · exact (s.keeps_elapse _).trans (State.keeps_expire _ _)
  · exact s.keeps_refl

theorem State.keeps_microsecond (s : State) : s.keeps s.microsecond :=
  (s.keeps_elapse 1).trans (State.keeps_foldl _ (fun s n => s.keeps_expire n) _ _)

theorem State.keeps_idle (s : State) : s.keeps s.idle := by
  unfold State.idle
  split
  · split
    · exact s.keeps_microsecond
    · exact s.keeps_microsecond
    · exact s.keeps_op _
    · exact s.keeps_finishWord.trans (State.keeps_react _ _)
  · exact s.keeps_microsecond

theorem State.keeps_applyThresholds (s : State) : s.keeps s.applyThresholds := by
  refine State.keeps_foldl _ (fun s n => ?_) _ _
  unfold State.applyThreshold
  split
  · split
    · exact s.keeps_requestBoundary n
    · exact s.keeps_judge n none
  · exact s.keeps_refl

theorem State.keeps_haltAll (s : State) : s.keeps s.haltAll :=
  State.keeps_foldl _ (fun s n => s.keeps_halt n _) _ _

theorem SlotRecord.busReset_mode (r : SlotRecord) : r.busReset.mode = r.mode := by
  unfold SlotRecord.busReset
  split <;> rfl

theorem State.keeps_busReset (s : State) : s.keeps s.busReset := by
  have rest : ∀ u : State, u.keeps { u with
      clear := true, slots := Vector.ofFn fun n : Slot => (u.slot n).busReset
      arb := { u.arb with origin := 0, turn := .attention }, attention := [], inService := Vector.replicate 8 false } := by
    intro u
    refine ⟨rfl, rfl, rfl, rfl, rfl, rfl, rfl, rfl, rfl, rfl, rfl, rfl, rfl, rfl, fun n => ?_⟩
    simp [State.slot_def, SlotRecord.busReset_mode]
  unfold State.busReset
  exact ((s.keeps_finishWord.trans (State.keeps_cut _)).trans (State.keeps_haltAll _)).trans (rest _)

end Sys2Proof.Machine
end

