-- ==== Sys2Proof/Laws/Memory.lean ====
section
/-! SUPPORT. The transfer store: a read after a write, and the canonical form every write keeps. -/

namespace Sys2Proof.Machine

theorem Memory.read_write_same (m : Memory) (k : Nat) (v : Word) (h : m.wf) :
    Memory.read (Memory.write k v m) k = v := by
  induction m with
  | nil => by_cases hv : v = 0#16 <;> simp [Memory.write, Memory.read, hv]
  | cons c rest ih =>
    obtain ⟨a, w⟩ := c
    have hrest : Memory.wf rest := ⟨(List.pairwise_cons.1 h.1).2, fun d hd => h.2 d (List.mem_cons_of_mem _ hd)⟩
    have hlow : ∀ d ∈ rest, a < d.1 := fun d hd => (List.pairwise_cons.1 h.1).1 d hd
    have absent : ∀ (l : Memory), (∀ d ∈ l, k < d.1) → Memory.read l k = 0#16 := by
      intro l
      induction l with
      | nil => intro _; rfl
      | cons d t iht =>
        intro hl
        have hd := hl d List.mem_cons_self
        have hne : d.1 ≠ k := by omega
        simp only [Memory.read, hne, if_false]
        exact iht fun e he => hl e (List.mem_cons_of_mem _ he)
    unfold Memory.write
    split
    · rename_i hk
      split
      · rename_i hv
        rw [hv]
        refine absent _ fun d hd => ?_
        rcases List.mem_cons.1 hd with rfl | hd
        · exact hk
        · exact Nat.lt_trans hk (hlow d hd)
      · simp [Memory.read]
    · split
      · rename_i hk
        split
        · rename_i hv
          rw [hv]
          exact absent _ fun d hd => hk ▸ hlow d hd
        · simp [Memory.read]
      · rename_i hk hne
        have : a ≠ k := fun e => hne e.symm
        simp only [Memory.read, this, if_false]
        exact ih hrest

theorem Memory.read_write_other (m : Memory) (k j : Nat) (v : Word) (hj : j ≠ k) :
    Memory.read (Memory.write k v m) j = Memory.read m j := by
  induction m with
  | nil => by_cases hv : v = 0#16 <;> simp [Memory.write, Memory.read, hv, hj.symm]
  | cons c rest ih =>
    obtain ⟨a, w⟩ := c
    unfold Memory.write
    split
    · split <;> simp [Memory.read, hj.symm]
    · split
      · rename_i hk
        subst hk
        split <;> simp [Memory.read, hj.symm]
      · simp only [Memory.read, ih]

/-- An entry of the written memory is the word written or an entry of the memory before. -/
theorem Memory.mem_write (m : Memory) (k : Nat) (v : Word) (c : Nat × Word) (h : c ∈ Memory.write k v m) :
    (c = (k, v) ∧ v ≠ 0#16) ∨ c ∈ m := by
  induction m with
  | nil =>
    by_cases hv : v = 0#16 <;> simp [Memory.write, hv] at h
    exact .inl ⟨h, hv⟩
  | cons d rest ih =>
    obtain ⟨a, w⟩ := d
    unfold Memory.write at h
    split at h
    · split at h
      · exact .inr h
      · rename_i hv
        rcases List.mem_cons.1 h with rfl | h
        · exact .inl ⟨rfl, hv⟩
        · exact .inr h
    · split at h
      · split at h
        · exact .inr (List.mem_cons_of_mem _ h)
        · rename_i hv
          rcases List.mem_cons.1 h with rfl | h
          · exact .inl ⟨rfl, hv⟩
          · exact .inr (List.mem_cons_of_mem _ h)
      · rcases List.mem_cons.1 h with rfl | h
        · exact .inr List.mem_cons_self
        · exact (ih h).imp id (List.mem_cons_of_mem _)

/-- Every store write keeps the canonical form. -/
theorem Memory.write_wf (m : Memory) (k : Nat) (v : Word) (hk : k < Config.storeWords) (h : m.wf) :
    Memory.wf (Memory.write k v m) := by
  refine ⟨?_, fun c hc => ?_⟩
  · have hp := h.1
    clear h
    induction m with
    | nil => by_cases hv : v = 0#16 <;> simp [Memory.write, hv]
    | cons d rest ih =>
      obtain ⟨a, w⟩ := d
      have hlow := (List.pairwise_cons.1 hp).1
      have hrest := (List.pairwise_cons.1 hp).2
      unfold Memory.write
      split
      · rename_i hka
        split
        · exact hp
        · refine List.pairwise_cons.2 ⟨fun e he => ?_, hp⟩
          rcases List.mem_cons.1 he with rfl | he
          · exact hka
          · exact Nat.lt_trans hka (hlow e he)
      · split
        · rename_i hka
          split
          · exact hrest
          · exact List.pairwise_cons.2 ⟨fun e he => hka ▸ hlow e he, hrest⟩
        · refine List.pairwise_cons.2 ⟨fun e he => ?_, ih hrest⟩
          rcases Memory.mem_write rest k v e he with ⟨rfl, _⟩ | he
          · dsimp only
            omega
          · exact hlow e he
  · rcases Memory.mem_write m k v c hc with ⟨rfl, hv⟩ | hc
    · exact ⟨hk, hv⟩
    · exact h.2 c hc

/-- The empty store is in canonical form. -/
theorem Memory.nil_wf : Memory.wf [] := by decide

/-- A page word lies in the store (R76). -/
theorem storeAddress_lt (p : Page) (w : Nat) (hw : w < Config.pageWords) : storeAddress p w < Config.storeWords := by
  have := p.isLt
  unfold storeAddress Config.storeWords Config.pageWords at *
  omega

/-- A valid context offset names a word of the store (R84). -/
theorem Transfer.address_lt (x : Transfer) (o a : Nat) (h : x.address o = some a) : a < Config.storeWords := by
  unfold Transfer.address at h
  obtain ⟨p, _, rfl⟩ := Option.map_eq_some_iff.1 h
  exact storeAddress_lt p _ (Nat.mod_lt _ (by decide))

end Sys2Proof.Machine
end

