-- ==== Sys2Proof/Laws/Operands.lean ====
section
/-! SUPPORT. Fields and words as numbers: what a field of a word is, what a word made of fields is, and what the two do
to each other. -/

namespace Sys2Proof.Machine

/-- The number of two fields put together. -/
theorem toNat_fields {a b : Nat} (x : BitVec a) (y : BitVec b) : (x ++ y).toNat = x.toNat * 2 ^ b + y.toNat := by
  rw [BitVec.toNat_append, Nat.shiftLeft_eq, Nat.mul_comm, ← Nat.two_pow_add_eq_or_of_lt y.isLt]

/-- The number of a field of a word. -/
theorem toNat_field (w : Word) (i n : Nat) : (w.extractLsb' i n).toNat = w.toNat / 2 ^ i % 2 ^ n := by
  simp [BitVec.extractLsb'_toNat, Nat.shiftRight_eq_div_pow]

/-- One bit of a word, as a number's digit. -/
theorem getLsbD_eq_decide (w : Word) (i : Nat) : w.getLsbD i = decide (w.toNat / 2 ^ i % 2 = 1) := by
  rw [BitVec.getLsbD, Nat.testBit_eq_decide_div_mod_eq]

/-- The number of a bit of a word put into a field of its own. -/
theorem toNat_ofBool_getLsbD (w : Word) (i : Nat) : (BitVec.ofBool (w.getLsbD i)).toNat = w.toNat / 2 ^ i % 2 := by
  rw [BitVec.toNat_ofBool, getLsbD_eq_decide]
  rcases Nat.mod_two_eq_zero_or_one (w.toNat / 2 ^ i) with h | h <;> simp [h]

/-- The slot a field of three bits of a word names. -/
theorem slotOfBits_field (w : Word) (i : Nat) : slotOfBits (w.extractLsb' i 3) = Fin.ofNat 8 (w.toNat / 2 ^ i) := by
  apply Fin.ext
  simp [slotOfBits, Fin.ofNat, Nat.shiftRight_eq_div_pow]

/-- A slot number read from a field and put back into one is that field. -/
theorem bitsOfSlot_slotOfBits (b : BitVec 3) : bitsOfSlot (slotOfBits b) = b := by
  apply BitVec.eq_of_toNat_eq
  simp [bitsOfSlot, slotOfBits]

/-- A slot number put into a field and read back is that slot. -/
theorem slotOfBits_bitsOfSlot (n : Slot) : slotOfBits (bitsOfSlot n) = n := by
  apply Fin.ext
  have := n.isLt
  simp [bitsOfSlot, slotOfBits]

/-- The slot named in OPA (R157). -/
theorem operandSlot_eq (w : Word) : operandSlot w = Fin.ofNat 8 w.toNat := by
  rw [operandSlot, slotOfBits_field]; simp

/-- The fourteen codes name their commands and no other word names one (R157). -/
theorem commandOf_code (c : Command) : commandOf c.code = some c := by cases c <;> rfl

/-- A card kind as the ident word carries it (10 section 10.6). -/
theorem identOfWords_cardKind (w0 w1 : Word) : (identOfWords w0 w1).cardKind.toNat = w0.toNat / 256 := by
  simp only [identOfWords, toNat_field]; omega

/-- A burst limit as the capability word carries it (10 section 10.6). -/
theorem identOfWords_burstLimit (w0 w1 : Word) : (identOfWords w0 w1).burstLimit.toNat = w1.toNat / 1024 := by
  simp only [identOfWords, toNat_field]; omega

/-- The first check of R9: the card kind. -/
theorem failedCheck_zero_iff (w0 w1 : Word) :
    (identOfWords w0 w1).failedCheck = some 0 ↔ w0.toNat / 256 = 0 ∨ w0.toNat / 256 = 255 := by
  have h := identOfWords_cardKind w0 w1
  unfold Ident.failedCheck
  simp only [BitVec.toNat_eq, h]
  split
  · simp_all
  · split <;> simp_all

/-- The checks of R9 pass: a card kind of 1..254 and a burst limit of 1..32. -/
theorem failedCheck_none_iff (w0 w1 : Word) :
    (identOfWords w0 w1).failedCheck = none ↔
      (w0.toNat / 256 ≠ 0 ∧ w0.toNat / 256 ≠ 255) ∧ w1.toNat / 1024 ≠ 0 ∧ w1.toNat / 1024 ≤ 32 := by
  have h := identOfWords_cardKind w0 w1
  have h' := identOfWords_burstLimit w0 w1
  unfold Ident.failedCheck
  simp only [BitVec.toNat_eq, h, h']
  split
  · simp_all; omega
  · split <;> simp_all
    omega

/-- A failed check is check 0 or check 1. -/
theorem failedCheck_cases (i : Ident) : i.failedCheck = none ∨ i.failedCheck = some 0 ∨ i.failedCheck = some 1 := by
  unfold Ident.failedCheck
  split
  · simp
  · split <;> simp

end Sys2Proof.Machine
end

