-- ==== Sys2Proof/Tests/Slice0.lean ====
section
/-! SUPPORT. Tests: the checks of well-formedness, words the manual works out, and for each statement with hypotheses a
state that meets them. -/

namespace Sys2Proof.Tests

open Sys2Proof Sys2Proof.Machine

/-! ## States -/

/-- The part after STARTING with no card seated. -/
def up : State :=
  { State.reset with lines := { State.reset.lines with rstin := false }, clear := false }

/-- The part in STARTING, with a card seated in slot 0. -/
def starting : State :=
  { State.reset with
    lines := { State.reset.lines with rstin := false, seat := State.reset.lines.seat.set 0 true }, starting := true }

/-- The same after the CLEAR pulse. -/
def startingQuiet : State := { starting with clear := false }

/-- The card of the first worked transfer (11 section 11.2) with the attention capability added: kind 40, burst limit 16. -/
def card : Ident := identOfWords 0x28C3#16 0x4001#16

/-- A context of 70 words on pages 0, 1 and 2, as in 11 section 11.2. -/
def transfer (phase : Phase) (direction : Direction) (moved : Nat) : Transfer :=
  { phase := phase, direction := direction, count := 70, moved := moved, tag := 0x15#8, pages := [0, 1, 2] }

/-- Slot 1 holds a transfer on pages 0, 1 and 2. -/
def holding (s : State) (x : Transfer) : State :=
  { s.setContext 1 { transfer := some x, abortPending := false } with freePages := allPages.drop 3 }

/-- Slots in every seat state: 1 ONLINE with the card, 2 FAILED, 3 FENCED, 4 SETTLING. -/
def slots : State :=
  ((((up.setSlot 1 { SlotRecord.reset with seat := .online, ident := some card }).setSlot 2
    { SlotRecord.reset with seat := .failed, lastError := some ⟨.timeout, .identify, 0⟩ }).setSlot 3
    { SlotRecord.reset with seat := .fenced, ident := some card, errorCount := 4 }).setSlot 4
    { SlotRecord.reset with seat := .settling, timer := some 2000 })

/-- Slot 1's context ARMED, direction IN, 69 of 70 words short of DONE or as given; an entry in each queue. -/
def idle (moved : Nat) : State :=
  { holding slots (transfer .armed .input moved) with
    attention := [⟨3, 5, 0x0A01#16⟩], events := [.seat 1 .seated 1] }

/-- The operation record of slot 1 in a word cycle, its strobe driven or not. -/
def operation (kind : OperationKind) (strobe : Bool) : Operation :=
  { kind := kind, slot := 1, index := 0, window := 8, phase := if strobe then .strobed else .begun }

/-- A burst with nothing moved. -/
def burst (direction : Direction) (size : Nat) (boundary : Bool) : Burst :=
  { direction := direction, size := size, moved := 0, boundary := boundary, driven := none }

/-- A BURST_IN of slot 1 in flight. -/
def bursting (moved size : Nat) (boundary strobe : Bool) : State :=
  { idle moved with op := some (operation (.burst (burst .input size boundary)) strobe) }

/-- A BURST_OUT of slot 1 in flight. -/
def sending (moved size : Nat) : State :=
  { (idle moved).setTransfer 1 (transfer .armed .output moved) with
    op := some (operation (.burst (burst .output size false)) true) }

/-- An IDENTIFY of slot 1 in flight. -/
def identifying (w : Option Word) : State :=
  { up.setSlot 1 { SlotRecord.reset with seat := .identifying } with
    op := some { operation (.identify w) true with index := if w = none then 0 else 1 } }

/-- An ACKNOWLEDGE of slot 1 in flight. -/
def acknowledging : State := { idle 0 with op := some (operation .acknowledge true) }

/-- Operands for the command that follows. -/
def operands (s : State) (opa opb : Word) : State := { s with cmd := { s.cmd with opa := opa, opb := opb } }

/-- What a command leaves meets a check. -/
def leaves (s : State) (i : Instr) (check : State → Bool) : Bool :=
  match exec i s with
  | .next t => check t
  | .fault _ => false
  | .refused _ => false

/-- The part in phase 4 of a word cycle whose reply it has taken with the word 0107h. -/
def releasing (s : State) (reply : BitVec 2) (parity : BitVec 2) : State :=
  match exec (.replyTaken reply 0x0107#16 parity) { s with releaseHeld := true } with
  | .next t => t
  | .fault _ => s
  | .refused _ => s

/-- The phase of the word cycle in progress. -/
def phase (s : State) : Option WordPhase := s.op.map Operation.phase

/-- What a step leaves meets a check. -/
def stepLeaves (s : State) (check : State → Bool) : Bool :=
  match step s with
  | .next t => check t
  | .fault _ => false
  | .refused _ => false

/-- The part in phase 5 of that word cycle. -/
def released (s : State) (reply : BitVec 2) (parity : BitVec 2) : State :=
  match step (releasing s reply parity) with
  | .next t => t
  | .fault _ => s
  | .refused _ => s

/-- What the two steps of a release leave meets a check. -/
def releaseLeaves (s : State) (check : State → Bool) : Bool := stepLeaves s (fun t => stepLeaves t check)

/-! ## Well-formedness -/

theorem test_no_reply_is_ill_formed : (Instr.replyTaken 0#2 0#16 0#2).wellFormed = false := by decide
theorem test_reply_is_well_formed : (Instr.replyTaken 3#2 0#16 0#2).wellFormed = true := by decide
theorem test_control_by_address_is_ill_formed : (Instr.registerWrite 0x01#5 0#16).wellFormed = false := by decide
theorem test_empty_address_is_well_formed : (Instr.registerWrite 0x1F#5 0#16).wellFormed = true := by decide
theorem test_command_word_is_ill_formed : (Instr.unknownCommand 0x0018#16).wellFormed = false := by decide
theorem test_other_word_is_well_formed : (Instr.unknownCommand 0x0007#16).wellFormed = true := by decide

/-! ## Words the manual works out -/

/-- 10 section 10.2. -/
theorem test_control_reads_back : (controlOfWord 0x0C0B#16).word = 0x0C08#16 ∧ (controlOfWord 0#16).word = 0x0101#16 := by
  decide

/-- 11 section 11.1, steps 1 to 4. -/
theorem test_start_up_words :
    starting.readRegister 0x00#5 = 0x8800#16 ∧ startingQuiet.readRegister 0x00#5 = 0x8000#16 ∧
      up.readRegister 0x00#5 = 0#16 ∧ up.readRegister 0x1B#5 = 0xB182#16 ∧ up.readRegister 0x10#5 = 0x0040#16 := by
  decide

/-- 10 section 10.4, after R159. -/
theorem test_last_error_words :
    (LastError.mk .cardFault .burst 0).viewWord = 0xBC00#16 ∧ (LastError.mk .parity .acknowledge 0).viewWord = 0xA800#16 ∧
      (LastError.mk .timeout .burst 5).viewWord = 0x9C05#16 := by decide

/-- 10 section 10.5, after R160. -/
theorem test_event_head_words :
    (Event.transfer 3 (.halted .fenced) 12#8 .input 40).headWords 1 = (0xF300#16, 0x130C#16, 0x0028#16) ∧
      (Event.seat 3 (.fenced (some .cardFault)) 2).headWords 3 = (0xA302#16, 0x3300#16, 0x0000#16) := by decide

/-- 10 section 10.4: the context of slot 4 in the example of Transfer Contexts. -/
theorem test_context_view_words :
    let x : Transfer :=
      { phase := .halted .aborted, direction := .output, count := 40, moved := 39, tag := 7#8, pages := [0, 1] }
    (up.setContext 4 { transfer := some x, abortPending := false }).contextView 4 = (0x9207#16, 0x0028#16, 0x0027#16) := by
  decide

/-- 10 section 10.4: the attention queue of the purge example. -/
theorem test_attention_head_word :
    { up with attention := [⟨1, 12, 0#16⟩, ⟨2, 0, 0#16⟩] }.attentionHead.1 = 0x920C#16 := by decide

/-- 10 section 10.6: a card of kind 40, service code 3, transfer-capable, burst limit 16, revision 1 (11 section 11.2). -/
theorem test_ident_words :
    let i := identOfWords 0x2843#16 0x4001#16
    i = { cardKind := 40, service := 3, attention := false, transfer := true, burstLimit := 16, revision := 1 } ∧
      i.identWord = 0x2843#16 ∧ i.capabilityWord = 0x4001#16 := by decide

/-- 10 section 10.1: ORDER_LO and ORDER_HI at pin reset. -/
theorem test_order_words : up.readRegister 0x19#5 = 0x3210#16 ∧ up.readRegister 0x1A#5 = 0x7654#16 := by decide

/-! ## One step each -/

/-- 11 section 11.2, step 6: OPEN with OPA 1502h and OPB 0046h. -/
theorem test_open_of_the_worked_transfer :
    leaves (operands up 0x1502#16 0x0046#16) .openContext (fun t =>
      t.cmd.result = .ok ∧ t.cmd.resultData = 0#16 ∧ t.freePages.length = 61 ∧
        (t.context 2).transfer = some (transfer .loading .input 0)) = true := by decide

/-- 11 section 11.2, step 12: the word that completes the transfer; CONTEXT_VIEW reads 6015h, 0046h and 0046h. -/
theorem test_last_word_of_the_worked_transfer :
    leaves (bursting 69 1 false true) (.replyTaken 1#2 0x1234#16 (parityOf 0x1234#16)) (fun t =>
      t.contextView 1 = (0x6015#16, 0x0046#16, 0x0046#16) ∧ t.op = none ∧ t.store.read 69 = 0x1234#16 ∧
        t.arb.origin = 2 ∧ t.arb.turn = .attention) = true := by decide

/-- 11 section 11.2: CLOSE returns pages 0, 1 and 2 behind page 63. -/
theorem test_close_of_the_worked_transfer :
    leaves (operands (holding up (transfer .done .input 70)) 1#16 0#16) .close (fun t =>
      t.freePages.map Fin.val = (List.range 64).drop 3 ++ [0, 1, 2] ∧ t.cmd.result = .ok) = true := by decide

/-- 11 section 11.3, steps 4 and 5: STALE for another head, then the head named. -/
theorem test_take_attention_stale :
    leaves (operands (idle 0) 4#16 0#16) .takeAttention (fun t => t.cmd.result = .stale ∧ t.attention.length = 1) = true := by
  decide
theorem test_take_attention_head :
    leaves (operands (idle 0) 3#16 0#16) .takeAttention (fun t =>
      t.cmd.resultData = 0x0A01#16 ∧ t.attention = [] ∧ t.readRegister 0x0A#5 = 0x0008#16) = true := by decide

/-- R131: a changes count of 15 stays 15. -/
theorem test_changes_stop_at_fifteen : insertSeat 1 .unseated [.seat 1 .seated 15] = [.seat 1 .unseated 15] := by decide

/-- R86: the offset wraps from 4095 to 0. -/
theorem test_pointer_wraps : (StorePointer.mk 2 4095#12).advance = StorePointer.mk 2 0#12 := by decide

/-- R28: the parity bits of 0000h are both 1, of 0107h both 0. -/
theorem test_parity_bits : parityOf 0x0000#16 = 3#2 ∧ parityOf 0x0107#16 = 0#2 := by decide

/-- R141: a COMMAND write during STARTING is dropped with COMMAND_OVERRUN. -/
theorem test_command_in_starting :
    leaves starting .hold (fun t => t.overrun = true ∧ t.arb.hold = .running ∧ t.cmd.code = 0#16) = true := by decide

/-- R20: the remaining settle time of slot 4, rounded up to whole ms (R4, R159). -/
theorem test_settle_time_rounds_up :
    { slots.idle with slotSelect := 4 }.readRegister 0x15#5 = 0x0002#16 ∧
      { slots with slotSelect := 4 }.readRegister 0x15#5 = 0x0002#16 := by decide

/-- R36: an ABORT in the release of a word answered FAULT waits, and at the third error of threshold 3 the fence overtakes
it; with the release over the burst has ended and ABORT finds the context HALTED. -/
theorem test_abort_in_the_release_of_an_error :
    let s := (bursting 3 4 false true).setSlot 1 { SlotRecord.reset with seat := .online, ident := some card, errorCount := 3 }
    leaves (operands (releasing s 3#2 0#2) 1#16 0#16) .abort (fun t =>
        t.cmd.executing.isSome ∧ releaseLeaves t (fun u => u.cmd.result = .overtaken ∧ (u.slot 1).seat = .fenced)) = true ∧
      leaves (operands (released s 3#2 0#2) 1#16 0#16) .abort (fun t =>
        t.cmd.executing.isSome ∧ stepLeaves t (fun u => u.cmd.result = .overtaken ∧ (u.slot 1).seat = .fenced)) = true ∧
      leaves s (.replyTaken 3#2 0#16 0#2) (fun t =>
        leaves (operands t 1#16 0#16) .abort (fun u => u.cmd.result = .wrongState)) = true := by decide

/-- R36: an ABORT in the release of a word moved short of the burst size ends the burst there with BOUNDARY; R106: in the
release of the last word it is WRONG_STATE, for the context is DONE. -/
theorem test_abort_in_the_release_of_a_moved_word :
    leaves (operands (releasing (bursting 3 4 false true) 1#2 0#2) 1#16 0#16) .abort (fun t =>
        releaseLeaves t (fun u => u.cmd.result = .ok ∧ u.cmd.resultData = 4#16 ∧ u.op = none)) = true ∧
      leaves (operands (released (bursting 3 4 false true) 1#2 0#2) 1#16 0#16) .abort (fun t =>
        stepLeaves t (fun u => u.cmd.result = .ok ∧ u.cmd.resultData = 4#16 ∧ u.op = none)) = true ∧
      leaves (operands (releasing (bursting 69 1 false true) 1#2 0#2) 1#16 0#16) .abort
        (fun t => t.cmd.result = .wrongState) = true := by decide

/-- R25: a BURST_OUT drives strobe and data lines in phase 4 and neither in phase 5. -/
theorem test_release_drives_nothing :
    let out := { sending 3 4 with op := some (operation (.burst { burst .output 4 false with driven := some 0x0107#16 }) true) }
    (releasing out 1#2 0#2).strobe = true ∧ (releasing out 1#2 0#2).dataLines = some 0x0107#16 ∧
      (released out 1#2 0#2).strobe = false ∧ (released out 1#2 0#2).dataLines = none ∧
      (released out 1#2 0#2).parityLines = none ∧ (released out 1#2 0#2).sel 1 = true := by decide

/-! ## A state that meets the hypotheses of each statement -/

theorem witness_StepRunsTheFrontCommand : { up with pending := [.hold, .resume] }.pending = .hold :: [.resume] := rfl

/-- A slot with its settle timer at 1 µs. -/
def expiringAt (n : Slot) (s : State) : State :=
  s.setSlot n { SlotRecord.reset with seat := .settling, timer := some 1 }

/-- Timers at 2000 µs and stopped; with one at its last microsecond, whose slot is chosen; with two; in the release of a burst
word; and in that of an ACKNOWLEDGE into which a HOLD has fallen. -/
theorem witness_EmptyQueueStepIsOneMicrosecond :
    let one := expiringAt 5 slots
    slots.pending = [] ∧ (slots.slot 4).timer = some 2000 ∧ (∀ n : Slot, (slots.slot n).expiring = false) ∧
      (∀ n : Slot, (one.slot n).expiring = decide (n = 5)) ∧ (one.idle.slot 5).seat = .identifying ∧
      (one.idle.slot 4).timer = some 1999 ∧ ((expiringAt 6 one).idle.slot 5).seat = .identifying ∧
      ((expiringAt 6 one).idle.slot 6).seat = .identifyWait ∧
      phase (releasing (bursting 3 4 false true) 1#2 0#2) = some (.answered ⟨.take, 0x0107#16, true⟩) ∧
      (releasing (bursting 3 4 false true) 1#2 0#2).pending = [] ∧
      phase (released (bursting 3 4 false true) 1#2 0#2) = some (.released ⟨.take, 0x0107#16, true⟩) ∧
      (released (bursting 3 4 false true) 1#2 0#2).pending = [] ∧
      stepLeaves (released (bursting 3 4 false true) 1#2 0#2)
        (fun t => phase t = some .begun ∧ (t.slot 4).timer = some 2000) = true ∧
      replyOfLines 1#2 = some .take ∧ parityGood 0x0107#16 0#2 = true ∧
      leaves (released acknowledging 1#2 0#2) .hold (fun t =>
        phase t = some (.released ⟨.take, 0x0107#16, true⟩) ∧ t.arb.hold = .holding ∧
          stepLeaves t (fun u => u.op = none ∧ u.arb.hold = .held ∧ u.cmd.result = .ok ∧
            u.attention = [⟨3, 5, 0x0A01#16⟩, ⟨1, 3, 0x0107#16⟩])) = true := by decide

/-- A state with a burst in flight in which every law holds, and a step from it. -/
def lawful : State := { bursting 0 4 false true with pending := [.replyRelease] }

theorem witness_StepKeepsTheStoreForm : lawful.storeLaw := by decide
theorem witness_StepKeepsRegisterRanges : lawful.registerLaw := by decide
theorem witness_StepKeepsEveryPageOnOneList : lawful.pageLaw := by
  refine ⟨by decide, fun n => ?_⟩
  revert n
  decide
theorem witness_StepKeepsContextsAndReports : lawful.reportLaw := by
  refine ⟨by decide, by decide, fun e he => ?_⟩
  have : e = .seat 1 .seated 1 := List.mem_singleton.1 he
  subst this
  decide
theorem witness_StepKeepsAttentionStanding : lawful.attentionLaw := by decide
theorem witness_StepKeepsTheBusInUse : lawful.workLaw := by decide

theorem witness_StepKeepsThePartTogether : lawful.partLaw ∧ lawful.reportLaw := by
  refine ⟨?_, witness_StepKeepsContextsAndReports⟩
  constructor
  · decide
  · decide
  · decide
  · intro o ho
    have : o = operation (.burst (burst .input 4 false)) true := (Option.some.inj ho).symm
    subst this
    refine ⟨by decide, by decide, by decide, by decide, fun _ _ => rfl, by decide, by decide, by decide, by decide, ?_⟩
    intro x hx
    have : x = transfer .armed .input 0 := (Option.some.inj hx).symm
    subst this
    decide
  · decide
  · decide
  · decide
  · decide
  · decide
  · refine ⟨?_, by decide, by decide, by decide⟩
    intro r hr
    cases hr

/-- The step from that state. -/
theorem witness_step_of_laws : (match step lawful with
    | .next t => decide (t.op = lawful.op ∧ t.pending = [])
    | .fault _ => false
    | .refused _ => false) = true := by decide

/-- OPEN changes the free page list, SET MODE a mode, and a word moved no field of its context but moved. -/
theorem witness_SettingsChangeOnlyByTheirCommands :
    leaves (operands up 0x0002#16 0x0021#16) .openContext (fun t => t.freePages ≠ up.freePages) = true ∧
      leaves (operands up 0x0025#16 0#16) .setMode (fun t => (t.slot 5).mode ≠ (up.slot 5).mode) = true ∧
      leaves (bursting 0 4 false true) (.replyTaken 1#2 0x0107#16 0#2) (fun t =>
        (t.context 1).transfer = some (transfer .armed .input 1) ∧ (t.context 2).transfer = none) = true := by decide

/-- Each of the three writers of the store changes a word; a word of bad parity, a STOP and a FAULT change none. -/
theorem witness_StoreWordsAreWrittenByThreeThings :
    let loading := { holding up (transfer .loading .input 0) with pointer := { slot := 1, offset := 95#12 } }
    leaves loading (.storeDataWrite 7#16) (fun t => t.store.read 95 = 7#16) = true ∧
      (transfer .loading .input 0).address 95 = some 95 ∧ loading.takesAccess ∧
      leaves (bursting 0 4 false true) (.replyTaken 1#2 0x0107#16 0#2) (fun t => t.store.read 0 = 0x0107#16) = true ∧
      [(1#2, 1#2), (2#2, 0#2), (3#2, 0#2)].all (fun r =>
        leaves (bursting 0 4 false true) (.replyTaken r.1 0x0107#16 r.2) (fun t => t.store = [])) = true ∧
      leaves { starting with store := [(5, 1#16)] } .startingEnd (fun t => t.store.read 5 = 0#16) = true := by decide

/-- A removal changes an entry in its place and adds one; a change with no entry of its slot, one behind another slot's entry with
a detail it takes away, and one at 15. -/
theorem witness_EntriesKeepTheirPlaces :
    leaves (idle 3) (.removal 1) (fun t => t.events =
      [.seat 1 .unseated 2, .transfer 1 (.halted .unseated) 0x15#8 .input 3]) = true ∧
      insertSeat 1 .seated [.seat 2 .seated 1] = [.seat 2 .seated 1, .seat 1 .seated 1] ∧
      insertSeat 1 (.fenced none) [.seat 2 .seated 1, .seat 1 (.fenced (some .parity)) 14, .seat 3 .seated 1] =
        [.seat 2 .seated 1, .seat 1 (.fenced none) 15, .seat 3 .seated 1] ∧
      insertSeat 1 .unseated [.seat 1 .seated 15] = [.seat 1 .unseated 15] := by decide

/-- Both a candidate of each kind and a free choice by turn. -/
theorem witness_ChoiceFollowsScanAndTurn :
    let s := { idle 0 with lines := { up.lines with areq := up.lines.areq.set 1 true, treq := up.lines.treq.set 1 true } }
    s.arb.order.toList.Nodup ∧ s.choice = some (.acknowledge 1) ∧
      { s with arb := { s.arb with turn := .transfer } }.choice = some (.burst 1) ∧
      (slots.setSlot 2 { SlotRecord.reset with seat := .identifyWait }).choice = some (.identify 2) ∧
      up.choice = none := by decide

/-- The boundary sizes: the burst limit 16, and the last remaining word. -/
theorem witness_StartMakesTheOperationRecord :
    ((idle 54).context 1).transfer = some (transfer .armed .input 54) ∧ ((idle 54).slot 1).ident = some card ∧
      (idle 54).burstSize 1 (transfer .armed .input 54) = 16 ∧
      (idle 69).burstSize 1 (transfer .armed .input 69) = 1 := by decide

/-- An event with a choice, one without, one in HELD, and no event. -/
theorem witness_ChoiceIsMadeAtTheEventsNamed :
    let due := { idle 0 with lines := { up.lines with treq := up.lines.treq.set 1 true } }
    due.transferEligible 1 = true ∧ (idle 0).transferEligible 1 = false ∧ due.mayChoose = true ∧
      due.choice = some (.burst 1) ∧ (bursting 0 4 false true).busFree = false ∧ (idle 0).busFree = true ∧
      (idle 0).choice = none ∧ { due with arb := { due.arb with hold := .held } }.mayChoose = false ∧
      choiceDue (idle 0) (idle 0) = false := by decide

/-- A burst end of the slot at position 7, and one in HOLDING. -/
theorem witness_OperationEndSetsTurnOriginAndHold :
    ((idle 0).operationEnd (.burst (burst .input 4 false)) 7).arb.origin = 0 ∧
      ({ idle 0 with arb := { up.arb with hold := .holding } }.operationEnd .acknowledge 1).arb.hold = .held := by decide

theorem witness_StartingRunsFromReleaseToItsEnd :
    State.reset.lines.rstin = true ∧ startingQuiet.lines.rstin = false ∧ startingQuiet.starting = true ∧
      startingQuiet.op = none ∧ ∀ n : Slot, (startingQuiet.slot n).seat = .empty := by decide

theorem witness_ClearEndCompletesBusReset :
    (let s := { up with clear := true, cmd := { up.cmd with executing := some ⟨0x003C#16, 0#16, 0#16⟩ } }
     s.takesAccess ∧ s.clear = true ∧ s.cmd.executing = some ⟨0x003C#16, 0#16, 0#16⟩) ∧
      starting.lines.rstin = false ∧ starting.starting = true ∧ starting.clear = true ∧ starting.cmd.executing = none := by
  decide

/-- The timer of slot 4 at 2000 µs, beside one with 3000 µs and one with 1500 µs; a slot that is not SETTLING. -/
theorem witness_SettleExpiryMakesAnIdentifyCandidate :
    let s := (slots.setSlot 5 { SlotRecord.reset with seat := .settling, timer := some 3000 }).setSlot 6
      { SlotRecord.reset with seat := .settling, timer := some 1500 }
    (s.slot 4).seat = .settling ∧ (s.slot 4).timer = some 2000 ∧ (s.slot 1).seat ≠ .settling ∧
      leaves s (.settleTimerExpiry 4) (fun t => (t.slot 4).seat = .identifying ∧ (t.slot 5).timer = some 1000 ∧
        (t.slot 6).timer = some 1) = true := by decide

theorem witness_SeatLinesSettleAndEmptyASlot :
    slots.takesAccess ∧ (slots.slot 0).seat = .empty ∧ (slots.slot 4).seat = .settling ∧ ¬starting.takesAccess := by decide

/-- With and without an ABORT that waits, and in the release of the last word, which is DONE before the removal. -/
theorem witness_RemovalHandsTheSlotOff :
    let waits := (bursting 3 4 true true).setContext 1 { transfer := some (transfer .armed .input 3), abortPending := true }
    waits.takesAccess ∧ (waits.slot 1).seat.pastSettling = true ∧ (waits.context 1).abortPending = true ∧
      waits.armed 1 = true ∧ slots.takesAccess ∧ (slots.slot 2).seat.pastSettling = true ∧
      (slots.context 2).abortPending = false ∧
      phase (releasing (bursting 69 1 false true) 1#2 0#2) = some (.answered ⟨.take, 0x0107#16, true⟩) ∧
      leaves (releasing (bursting 69 1 false true) 1#2 0#2) (.removal 1) (fun t =>
        t.events = [.seat 1 .unseated 2, .transfer 1 .done 0x15#8 .input 70] ∧ t.arb.origin = 2) = true := by decide

theorem witness_RequestLinesStartOperations :
    (idle 0).workLaw ∧ (idle 0).mayChoose = true ∧
      { idle 0 with lines := { up.lines with areq := up.lines.areq.set 1 true } }.attentionEligible 1 = true ∧
      { idle 0 with lines := { up.lines with treq := up.lines.treq.set 1 true } }.transferEligible 1 = true ∧
      (bursting 0 4 false true).workLaw ∧ (bursting 0 4 false true).mayChoose = false ∧
      { idle 0 with lines := { up.lines with areq := up.lines.areq.set 3 true } }.attentionEligible 3 = false := by decide

/-- No operation, each kind, a BURST_OUT that drives a word, a BURST_IN under its law, the ident word, and a word cycle
in its release, which another reply, an expiry and the release of the lines meet. -/
theorem witness_WordCyclesDriveTheLinesAndGoOn :
    let out := { sending 3 4 with op := some (operation (.burst { burst .output 4 false with driven := some 0x0107#16 }) false) }
    up.op = none ∧ acknowledging.kindLines = some 1#2 ∧ (bursting 3 4 false true).kindLines = some 2#2 ∧
      (bursting 3 4 false true).dataLines = none ∧ out.kindLines = some 3#2 ∧ out.dataLines = some 0x0107#16 ∧
      out.parityLines = some 0#2 ∧ (identifying none).op = some ⟨.identify none, 1, 0, 8, .strobed⟩ ∧
      parityGood 0x0107#16 0#2 = true ∧ (identifying none).releaseHeld = false ∧ (identifying none).pending = [] ∧
      (let held := releasing (identifying none) 1#2 0#2
       phase held = some (.answered ⟨.take, 0x0107#16, true⟩) ∧ held.strobe = true ∧
        leaves held .responseWindowExpiry (fun t => t = held) = true ∧
        leaves held (.replyTaken 3#2 0#16 0#2) (fun t => t = held) = true ∧
        leaves held .replyRelease (fun t =>
          t.op = some ⟨.identify (some 0x0107#16), 1, 1, 8, .strobed⟩) = true) := by decide

theorem witness_BurstInDrivesNothing :
    lawful.operationLaw (operation (.burst (burst .input 4 false)) true) ∧ lawful.dataLines = none :=
  ⟨witness_StepKeepsThePartTogether.1.operation _ rfl, by decide⟩

/-- Card kinds 1 and 254 with burst limits 1 and 32. -/
theorem witness_GoodIdentifyTakesTheSlotOnline :
    (identifying (some 0x01C3#16)).op = some ⟨.identify (some 0x01C3#16), 1, 1, 8, .strobed⟩ ∧
      ((identifying (some 0x01C3#16)).slot 1).seat = .identifying ∧
      leaves (identifying (some 0x01C3#16)) (.replyTaken 1#2 0x0401#16 (parityOf 0x0401#16))
        (fun t => (t.slot 1).seat = .online) = true ∧
      leaves (identifying (some 0xFEC3#16)) (.replyTaken 1#2 0x8001#16 (parityOf 0x8001#16))
        (fun t => (t.slot 1).seat = .online) = true := by decide

/-- Card kinds 0 and 255, burst limits 0 and 33, and each error before them. -/
theorem witness_FailedIdentifyTakesTheSlotToFailed :
    let fails := fun w reply data parity kind index =>
      leaves (identifying w) (.replyTaken reply data parity)
        (fun t => (t.slot 1).lastError = some ⟨kind, .identify, index⟩ ∧ (t.slot 1).seat = .failed)
    fails (some 0x00C3#16) 1#2 0x0401#16 (parityOf 0x0401#16) .badIdent 0 = true ∧
      fails (some 0xFFC3#16) 1#2 0x0401#16 (parityOf 0x0401#16) .badIdent 0 = true ∧
      fails (some 0x01C3#16) 1#2 0x0001#16 (parityOf 0x0001#16) .badIdent 1 = true ∧
      fails (some 0x01C3#16) 1#2 0x8401#16 (parityOf 0x8401#16) .badIdent 1 = true ∧
      fails none 1#2 0x0107#16 1#2 .parity 0 = true ∧ fails none 2#2 0#16 0#2 .protocol 0 = true ∧
      fails (some 0x01C3#16) 3#2 0#16 0#2 .cardFault 1 = true := by decide

theorem witness_AcknowledgeDeliversItsVector :
    acknowledging.op = some ⟨.acknowledge, 1, 0, 8, .strobed⟩ ∧ (acknowledging.slot 1).ident = some card ∧
      leaves acknowledging (.replyTaken 1#2 0x0107#16 0#2)
        (fun t => t.attention = [⟨3, 5, 0x0A01#16⟩, ⟨1, 3, 0x0107#16⟩]) = true := by decide

/-- ONLINE below the threshold, ONLINE at it after this error, and FENCED at 15 errors. -/
theorem witness_AcknowledgeErrorIsCounted :
    let counts := fun seat count =>
      acknowledging.setSlot 1 { SlotRecord.reset with seat := seat, ident := some card, errorCount := count }
    leaves (counts .online 2) .responseWindowExpiry
        (fun t => (t.slot 1).seat = .online ∧ (t.slot 1).errorCount = 3) = true ∧
      leaves (counts .online 3) .responseWindowExpiry (fun t => (t.slot 1).seat = .fenced ∧
        t.events = [.seat 1 (.fenced (some .timeout)) 2, .transfer 1 (.halted .fenced) 0x15#8 .input 0]) = true ∧
      leaves (counts .fenced 15) .responseWindowExpiry (fun t => (t.slot 1).errorCount = 15) = true := by decide

theorem witness_BurstWordIsMoved :
    let b := burst .input 2 false
    (bursting 68 2 false true).releaseHeld = false ∧
      { bursting 68 2 false true with releaseHeld := true }.op = (bursting 68 2 false true).op ∧
    (bursting 68 2 false true).op = some (operation (.burst b) true) ∧
      ((bursting 68 2 false true).context 1).transfer = some (transfer .armed .input 68) ∧
      (transfer .armed .input 68).address 68 = some 68 ∧ b.moved + 1 < b.size ∧ parityGood 0x0107#16 0#2 = true ∧
      (sending 68 2).op = some (operation (.burst (burst .output 2 false)) true) := by decide

/-- BURST_IN and BURST_OUT, and the release held: DONE at the reply, the burst's end with the step that follows. -/
theorem witness_LastWordMakesTheTransferDone :
    (let held := releasing (bursting 69 1 false true) 1#2 0#2
     held.pending = [] ∧ held.contextView 1 = (0x6015#16, 0x0046#16, 0x0046#16) ∧ held.op.isSome ∧
      releaseLeaves held (fun t => t.op = none ∧ t.arb.origin = 2) = true) ∧
    (bursting 69 1 false true).op = some (operation (.burst (burst .input 1 false)) true) ∧
      ((bursting 69 1 false true).context 1).transfer = some (transfer .armed .input 69) ∧
      (transfer .armed .input 69).address 69 = some 69 ∧ (bursting 69 1 false true).control.threshold = 4 ∧
      ((sending 69 1).context 1).transfer = some (transfer .armed .output 69) := by decide

/-- A STOP short of the count and to the last word, the word that reaches the size, the word after which the boundary is
asked for, and a STOP and a word moved whose release a step ends. -/
theorem witness_BurstEndsWithoutError :
    (transfer .armed .input 68).moved + 1 < (transfer .armed .input 68).count ∧
      (bursting 68 1 false true).op = some (operation (.burst (burst .input 1 false)) true) ∧
      leaves (bursting 68 1 false true) (.replyTaken 2#2 0#16 0#2) (fun t => t.op = none ∧ t.armed 1 = true) = true ∧
      leaves (bursting 68 1 false true) (.replyTaken 1#2 0x0107#16 0#2)
        (fun t => t.op = none ∧ t.store.read 68 = 0x0107#16) = true ∧
      leaves (bursting 3 4 true true) (.replyTaken 1#2 0x0107#16 0#2) (fun t => t.op = none) = true ∧
      ((bursting 69 1 false true).context 1).transfer = some (transfer .armed .input 69) ∧
      leaves (bursting 69 1 false true) (.replyTaken 2#2 0#16 0#2) (fun t => t.op = none ∧ t.armed 1 = true) = true ∧
      (let stopped := released (bursting 69 1 false true) 2#2 0#2
       let moved := released (bursting 68 1 false true) 1#2 0#2
       phase stopped = some (.released ⟨.stop, 0x0107#16, true⟩) ∧ stopped.pending = [] ∧
        stepLeaves stopped (fun t => t.op = none ∧ t.armed 1 = true) = true ∧
        phase moved = some (.released ⟨.take, 0x0107#16, true⟩) ∧
        moved.op.map Operation.kind = some (.burst { burst .input 1 false with moved := 1 }) ∧
        stepLeaves moved (fun t => t.op = none ∧ t.store.read 68 = 0x0107#16) = true) := by decide

theorem witness_BurstErrorIsCounted :
    ((bursting 3 4 false true).slot 1).seat = .online ∧
      leaves (bursting 3 4 false true) (.replyTaken 1#2 0x0107#16 1#2) (fun t =>
        (t.slot 1).lastError = some ⟨.parity, .burst, 0⟩ ∧ (t.slot 1).errorCount = 1 ∧ t.store = []) = true ∧
      leaves (sending 3 4) (.replyTaken 1#2 0x0107#16 1#2) (fun t => (t.slot 1).errorCount = 0) = true ∧
      (let failed := released (bursting 3 4 false true) 3#2 0#2
       let wrong := released (bursting 3 4 false true) 1#2 1#2
       phase failed = some (.released ⟨.fault, 0x0107#16, true⟩) ∧ failed.pending = [] ∧
        stepLeaves failed (fun t => (t.slot 1).lastError = some ⟨.cardFault, .burst, 0⟩) = true ∧
        phase wrong = some (.released ⟨.take, 0x0107#16, false⟩) ∧
        stepLeaves wrong (fun t => (t.slot 1).lastError = some ⟨.parity, .burst, 0⟩ ∧ t.store = []) = true) := by decide

/-- The threshold 1 with a count of 1 at slot 1, and no burst in flight. -/
def counted (s : State) : State := s.setSlot 1 { SlotRecord.reset with seat := .online, ident := some card, errorCount := 1 }

/-- A threshold at the count and one above it with no burst in flight, another slot's burst whose strobe is not out, and the
slot's own burst with the strobe out. -/
theorem witness_ControlWriteSetsFieldsAndFences :
    let other := (bursting 3 4 false false).setSlot 5 { SlotRecord.reset with seat := .online, ident := some card, errorCount := 1 }
    (counted (idle 3)).takesAccess ∧ (counted (idle 3)).op = none ∧
      ((counted (idle 3)).slot 1).fencedAt (takenControl 0x0108#16).threshold = true ∧
      ((counted (idle 3)).slot 1).fencedAt (takenControl 0x0208#16).threshold = false ∧
      (other.slot 1).fencedAt (takenControl 0x0108#16).threshold = false ∧
      leaves other (.controlWrite 0x0108#16) (fun u => (u.slot 5).seat = .fenced ∧ u.op = other.op) = true ∧
      phase (counted (bursting 3 4 false true)) = some .strobed ∧
      leaves (counted (bursting 3 4 false true)) (.controlWrite 0x0108#16) (fun u => (u.slot 1).seat = .online) = true := by
  decide

theorem witness_ThresholdWriteEndsABurstAtTheBoundary :
    let s := counted (bursting 3 4 false true)
    let t := counted (bursting 3 4 false false)
    s.takesAccess ∧ s.op = some (operation (.burst (burst .input 4 false)) true) ∧
      t.op = some (operation (.burst (burst .input 4 false)) false) ∧
      (s.context 1).transfer = some (transfer .armed .input 3) ∧
      (∀ n : Slot, (s.slot n).fencedAt (takenControl 0x0108#16).threshold = decide (n = 1)) ∧
      leaves s (.controlWrite 0x0108#16) (fun u => (u.slot 1).seat = .online ∧ u.endingBurst 1) = true ∧
      leaves t (.controlWrite 0x0108#16) (fun u => (u.slot 1).seat = .fenced ∧ u.op = none) = true ∧
      leaves (counted (releasing (bursting 3 4 false true) 1#2 0#2)) (.controlWrite 0x0108#16) (fun u =>
        (u.slot 1).seat = .online ∧ u.endingBurst 1 ∧
          releaseLeaves u (fun v => (v.slot 1).seat = .fenced ∧ v.op = none)) = true := by decide

theorem witness_PlainWritesSetTheirFields : up.takesAccess ∧
    leaves up (.timingWrite 0x0A10#16) (fun t => t.timing = ⟨10, 16⟩) = true ∧
    leaves up (.timingWrite 0x0040#16) (fun t => t.timing = ⟨1, 1⟩) = true := by decide

/-- The first and the last address of each group. -/
theorem witness_RegisterWriteSetsOperandsOrIsDropped :
    up.takesAccess ∧ leaves up (.registerWrite 0x04#5 9#16) (fun t => t.cmd.opa = 9#16) = true ∧
      [0x06#5, 0x0D#5, 0x10#5, 0x12#5, 0x1F#5].all (fun a => leaves up (.registerWrite a 9#16) (fun t => t = up)) = true := by
  decide

/-- The last valid offset of three pages, the first that is not, and each state of the context. -/
theorem witness_StoreWindowMovesAWordOrRefuses :
    let at1 := fun s offset => { s with pointer := { slot := 1, offset := offset } }
    let loading := holding up (transfer .loading .input 0)
    (transfer .loading .input 0).address 95 = some 95 ∧ (transfer .loading .input 0).address 96 = none ∧
      leaves (at1 loading 95#12) (.storeDataWrite 7#16) (fun t => t.pointer.offset = 96#12) = true ∧
      leaves (at1 loading 96#12) (.storeDataWrite 7#16) (fun t => t.windowFault ∧ t.store = []) = true ∧
      leaves (at1 (holding up (transfer .done .input 70)) 95#12) .storeDataRead (fun t => t.readData = some 0#16 ∧ !t.windowFault) = true ∧
      leaves (at1 (holding up (transfer .done .input 70)) 95#12) (.storeDataWrite 7#16) (fun t => t.windowFault) = true ∧
      leaves (at1 (idle 0) 0#12) .storeDataRead (fun t => t.windowFault) = true ∧
      leaves up .storeDataRead (fun t => t.windowFault) = true := by decide

theorem witness_OffsetsNameWordsOfTheirOwnPages :
    ((idle 0).context 1).transfer = some (transfer .armed .input 0) ∧
      (transfer .armed .input 0).address 33 = some 33 ∧ lawful.pageLaw :=
  ⟨by decide, by decide, witness_StepKeepsEveryPageOnOneList⟩

theorem witness_UnknownCommandCompletesBadOperand :
    up.takesCommand ∧ 0x0007#16 ∉ commandWords ∧ 0x1001#16 ∉ commandWords := by decide

theorem witness_WritesAreTurnedAway :
    Instr.hold ∈ hostCommands ∧ State.reset.lines.rstin = true ∧ starting.lines.rstin = false ∧ starting.starting = true ∧
      ¬starting.takesAccess ∧ { up with cmd := { up.cmd with executing := some ⟨0x0012#16, 1#16, 0#16⟩ } }.cmd.executing ≠ none := by
  decide

/-- The three modes and code 3. -/
theorem witness_SetModeStoresTheMode :
    up.takesCommand ∧ Mode.pass.code.toNat = (operands up 0x0025#16 0#16).cmd.opa.toNat / 16 % 4 ∧
      Mode.join.code.toNat = (operands up 0x0005#16 0#16).cmd.opa.toNat / 16 % 4 ∧
      (operands up 0x0035#16 0#16).cmd.opa.toNat / 16 % 4 = 3 := by decide

theorem witness_ReidentifyAndUnfenceReturnToIdentification :
    let s := fun n => operands slots n 0#16
    (s 2#16).takesCommand ∧ ((s 2#16).slot (s 2#16).named).seat = .failed ∧
      ((s 3#16).slot (s 3#16).named).seat = .fenced ∧ ((s 1#16).slot (s 1#16).named).seat = .online := by decide

/-- A permutation, and a list that differs from it in one position. -/
theorem witness_SetOrderTakesAPermutation :
    up.takesCommand ∧
      (∀ p q : Position, (carriedOrder 0x4567#16 0x0123#16)[p] = (carriedOrder 0x4567#16 0x0123#16)[q] → p = q) ∧
      (∃ p q : Position, p ≠ q ∧ (carriedOrder 0x4567#16 0x0124#16)[p] = (carriedOrder 0x4567#16 0x0124#16)[q]) := by
  decide

theorem witness_HoldWaitsOnAnOperation :
    up.takesCommand ∧ up.arb.hold = .running ∧ up.op = none ∧ acknowledging.takesCommand ∧
      acknowledging.arb.hold = .running ∧ acknowledging.op ≠ none ∧
      { up with arb := { up.arb with hold := .held } }.takesCommand := by decide

theorem witness_ResumeMakesAChoice :
    let held := { up with arb := { up.arb with hold := .held } }
    let waits := held.setSlot 2 { SlotRecord.reset with seat := .identifyWait }
    held.takesCommand ∧ held.op = none ∧ held.clear = false ∧
      { waits with arb := up.arb }.choice = some (.identify 2) ∧ up.choice = none ∧ up.arb.hold = .running := by decide

theorem witness_TakeAttentionTakesTheHeadNamed :
    up.takesCommand ∧ up.attention = [] ∧ (idle 0).takesCommand ∧ (idle 0).attention = [⟨3, 5, 0x0A01#16⟩] ∧
      (operands (idle 0) 3#16 0#16).named = 3 ∧ (operands (idle 0) 4#16 0#16).named ≠ 3 := by decide

theorem witness_RetireTakesASlotOutOfService :
    let s := { up with inService := up.inService.set 3 true }
    s.takesCommand ∧ (operands s 3#16 0#16).inService[(operands s 3#16 0#16).named] = true ∧
      (operands s 2#16 0#16).inService[(operands s 2#16 0#16).named] = false := by decide

/-- Counts 0, 1, 2048 and 2049, and one page too few. -/
theorem witness_OpenAllocatesPages :
    let opens := fun s count result => leaves (operands s 0x0002#16 count) .openContext (fun t => t.cmd.result = result)
    opens up 0#16 .badOperand = true ∧ opens up 2049#16 .badOperand = true ∧ opens up 1#16 .ok = true ∧
      opens up 2048#16 .ok = true ∧ opens { up with freePages := allPages.drop 1 } 2017#16 .noSpace = true ∧
      leaves (operands (idle 0) 1#16 1#16) .openContext (fun t => t.cmd.result = .wrongState) = true := by decide

theorem witness_ArmOpensAContextToItsCard :
    let arms := fun s result => leaves (operands s 1#16 0#16) .arm (fun t => t.cmd.result = result)
    arms (holding slots (transfer .loading .input 0)) .ok = true ∧
      arms (holding up (transfer .loading .input 0)) .notReady = true ∧
      arms (holding up (transfer .done .input 70)) .wrongState = true ∧ arms up .wrongState = true := by decide

/-- No burst, the strobe out, the release, the strobe not yet out, and a context that is not ARMED. -/
theorem witness_AbortHaltsOrWaits :
    let aborts := fun s check => leaves (operands s 1#16 0#16) .abort check
    aborts (idle 3) (fun t => t.cmd.result = .ok ∧ t.cmd.resultData = 3#16) = true ∧
      aborts (bursting 3 4 false true) (fun t => t.cmd.executing.isSome ∧ t.endingBurst 1) = true ∧
      aborts (releasing (bursting 3 4 false true) 1#2 0#2) (fun t => t.cmd.executing.isSome ∧ t.endingBurst 1) = true ∧
      aborts (bursting 3 4 false false) (fun t => t.op = none ∧ t.cmd.result = .ok) = true ∧
      ((bursting 3 4 false false).slot 1).fencedAt (bursting 3 4 false false).control.threshold = false ∧
      aborts up (fun t => t.cmd.result = .wrongState) = true := by decide

/-- CLOSED, ARMED, LOADING, DONE with its entry queued, and DONE with the entry gone. -/
theorem witness_CloseReturnsPages :
    let closes := fun s result => leaves (operands s 1#16 0#16) .close (fun t => t.cmd.result = result)
    let finished := holding up (transfer .done .input 70)
    closes up .wrongState = true ∧ closes (idle 0) .wrongState = true ∧
      closes (holding up (transfer .loading .input 0)) .ok = true ∧
      closes { finished with events := [.transfer 1 .done 0x15#8 .input 70] } .eventPending = true ∧
      closes finished .ok = true := by decide

theorem witness_NextEventRemovesTheHeadNamed :
    let removes := fun s opa result => leaves (operands s opa 0#16) .nextEvent (fun t => t.cmd.result = result)
    removes up 0#16 .wrongState = true ∧ removes (idle 0) 0x0101#16 .ok = true ∧ removes (idle 0) 0x0201#16 .stale = true ∧
      removes { up with events := [.transfer 1 .done 0x15#8 .input 70] } 0x0001#16 .ok = true ∧
      removes { up with events := [.transfer 1 .done 0x15#8 .input 70] } 0x0101#16 .stale = true := by decide

theorem witness_BusResetTakesEveryBlock :
    (bursting 3 4 false true).takesCommand ∧ (bursting 3 4 false true).arb.hold ≠ .holding ∧
      leaves (bursting 3 4 false true) .busReset (fun t => (t.slot 1).seat = .identifyWait ∧ (t.slot 4).seat = .settling ∧
        t.events = [.seat 1 .seated 1, .transfer 1 (.halted .busReset) 0x15#8 .input 3] ∧
        t.readRegister 0x00#5 = 0x4A00#16) = true ∧
      (∀ n : Slot, ((bursting 3 4 false true).context n).abortPending = false) ∧
      leaves (releasing (bursting 69 1 false true) 1#2 0#2) .busReset (fun t =>
        t.events = [.seat 1 .seated 1, .transfer 1 .done 0x15#8 .input 70]) = true := by decide

/-- Each period, a read of STORE_DATA at the last valid offset, behind it, and in an ARMED and a CLOSED context, and the lists of
both order words. -/
theorem witness_WindowRegistersShowTheirFields :
    (let reads := fun s slot offset => { s with pointer := { slot := slot, offset := offset } }.readRegister 0x0F#5
     let done := { holding up (transfer .done .input 70) with store := [(95, 0x0107#16)] }
     (transfer .done .input 70).pages[95 / 32]? = some 2 ∧ reads done 1 95#12 = 0x0107#16 ∧ reads done 1 96#12 = 0#16 ∧
      reads { idle 3 with store := [(0, 0x0107#16)] } 1 0#12 = 0#16 ∧ reads done 2 95#12 = 0#16) ∧
    { up with arb := { up.arb with order := #v[7, 0, 1, 2, 3, 4, 5, 6] } }.readRegister 0x19#5 = 0x2107#16 ∧
    { up with arb := { up.arb with order := #v[7, 0, 1, 2, 3, 4, 5, 6] } }.readRegister 0x1A#5 = 0x6543#16 ∧
    State.reset.lines.rstin = true ∧ starting.lines.rstin = false ∧ starting.starting = true ∧ (idle 0).takesAccess ∧
      (idle 0).registerLaw ∧ (idle 0).freePages.length = 61 := by decide

/-- A SEAT head and an attention head, DONE and HALTED heads, and both queues empty. -/
theorem witness_QueueHeadsShowTheHeads :
    (idle 0).takesAccess ∧ (idle 0).events = [.seat 1 .seated 1] ∧ (idle 0).attention = [⟨3, 5, 0x0A01#16⟩] ∧
      { up with events := [.transfer 1 .done 0x15#8 .output 70] }.readRegister 0x0B#5 = 0xE900#16 ∧
      { up with events := [.transfer 1 .done 0x15#8 .output 70] }.readRegister 0x0C#5 = 0x1815#16 ∧
      { up with events := [.transfer 7 (.halted .busReset) 0x15#8 .input 2048] }.readRegister 0x0B#5 = 0xF700#16 ∧
      { up with events := [.transfer 7 (.halted .busReset) 0x15#8 .input 2048] }.readRegister 0x0C#5 = 0x1415#16 ∧
      up.events = [] ∧ up.attention = [] := by decide

/-- Sixteen entries read length 0 with the valid flag set (R160). -/
theorem test_full_event_queue :
    let full := { up with events := List.replicate 16 (.seat 7 .seated 15) }
    full.readRegister 0x0B#5 = 0x8F0F#16 ∧ full.readRegister 0x0C#5 = 0#16 := by decide

/-- An ONLINE slot whose SEAT is inactive at the read, a slot with a last error, a settle timer at its longest and at 1 µs, and
the contexts of a slot that is open and of one that is CLOSED. -/
theorem witness_ViewsAndCodesLoseNothing :
    let view := fun (s : State) n => { s with slotSelect := n }
    let settling := fun k => view (slots.setSlot 4 { SlotRecord.reset with seat := .settling, timer := some k }) 4
    slots.takesAccess ∧ ((view slots 1).slot 1).ident = some (identOfWords 0x28C3#16 0x4001#16) ∧
      ((view slots 1).slot 1).seat = .online ∧ (view slots 1).lines.seat[1] = false ∧
      (view slots 2).readRegister 0x15#5 = 0x9400#16 ∧ (settling 255000).readRegister 0x15#5 = 0x00FF#16 ∧
      (settling 1).readRegister 0x15#5 = 0x0001#16 ∧ ((view (idle 3) 1).context 1).transfer = some (transfer .armed .input 3) ∧
      ((idle 3).context 0).transfer = none := by decide

/-- 10 section 10.4: the two worked words of SLOT_VIEW word 0; and R20: a slot still ONLINE reads with SEAT inactive. -/
theorem test_slot_view_words :
    let seated : Lines := { up.lines with seat := up.lines.seat.set 1 true, areq := up.lines.areq.set 1 true }
    let settling := { expiringAt 1 up with slotSelect := 1 }
    let online := { up.setSlot 1 { SlotRecord.reset with seat := .online, ident := some card, errorCount := 2 } with slotSelect := 1 }
    settling.readRegisterMeeting { up.lines with seat := seated.seat } 0x12#5 = 0x2500#16 ∧
      online.readRegisterMeeting seated 0x12#5 = 0x81A2#16 ∧ online.readRegisterMeeting up.lines 0x12#5 = 0x8022#16 := by
  decide

/-- R139: a read drives its word until HRD# or HCS# goes inactive; HRD# and HWR# together are no access. -/
theorem test_read_drives_its_word :
    (HostLines.mk true true false).hd 0xB182#16 = some 0xB182#16 ∧ (HostLines.mk true false false).hd 0xB182#16 = none ∧
      (HostLines.mk false true false).hd 0xB182#16 = none ∧ (HostLines.mk true true true).hd 0xB182#16 = none := by decide

end Sys2Proof.Tests
end

section
/-! SUPPORT. Identification: the end of an identify word cycle and of the IDENTIFY, and the two statements on how an
identification ends (R8 to R11, R30). -/

namespace Sys2Proof.Machine

/-! ## The words of a card and the checks on them -/

/-- The ident word stands whole in the record made of it (10 section 10.6). -/
theorem identOfWords_identWord (w0 w1 : Word) : (identOfWords w0 w1).identWord = w0 := by
  apply BitVec.eq_of_toNat_eq
  simp only [Ident.identWord, identOfWords, toNat_fields, toNat_field, toNat_ofBool_getLsbD]
  omega

/-- The capability word stands whole in the record made of it (10 section 10.6). -/
theorem identOfWords_capabilityWord (w0 w1 : Word) : (identOfWords w0 w1).capabilityWord = w1 := by
  apply BitVec.eq_of_toNat_eq
  simp only [Ident.capabilityWord, identOfWords, toNat_fields, toNat_field]
  omega

/-- The second check of R9, made where the first has passed: the burst limit. -/
theorem failedCheck_one_iff (w0 w1 : Word) :
    (identOfWords w0 w1).failedCheck = some 1 ↔
      (w0.toNat / 256 ≠ 0 ∧ w0.toNat / 256 ≠ 255) ∧ (w1.toNat / 1024 = 0 ∨ 32 < w1.toNat / 1024) := by
  have hkind := identOfWords_cardKind w0 w1
  have hlimit := identOfWords_burstLimit w0 w1
  unfold Ident.failedCheck
  simp only [BitVec.toNat_eq, hkind, hlimit]
  split
  · simp_all; omega
  · split <;> simp_all

/-! ## A reply and an expiry as events -/

/-- A reply shown while the strobe is out, no release held, ends its word cycle at once (R25, R27, log 12). -/
theorem exec_replyTaken_of_strobed {s : State} {o : Operation} {lines : BitVec 2} {r : Reply} (ho : s.op = some o)
    (hp : o.phase = .strobed) (hh : s.releaseHeld = false) (hr : replyOfLines lines = some r) (data : Word)
    (parity : BitVec 2) :
    exec (.replyTaken lines data parity) s =
      .next (react s (s.takeReply o ⟨r, data, parityGood data parity⟩).finishWord) := by
  simp [exec, execReplyTaken, ho, hp, hh, hr]

/-- Before the reply the end of the response window is the TIMEOUT of the word cycle (R26, R27). -/
theorem exec_responseWindowExpiry_of_no_answer {s : State} {o : Operation} (ho : s.op = some o)
    (hp : o.phase = .begun ∨ o.phase = .strobed) : exec .responseWindowExpiry s = .next (react s (s.timeout o)) := by
  rcases hp with hp | hp <;> simp [exec, execResponseWindowExpiry, ho, hp]

/-! ## The end of an IDENTIFY -/

/-- The part once an IDENTIFY has erred: its slot FAILED, the error reported, the operation ended (R11, R40). -/
def State.identifyFailed (s : State) (o : Operation) (kind : ErrorKind) (index : Nat) : State :=
  State.operationEnd { s with
    op := none
    slots := s.slots.set o.slot { s.slot o.slot with
      seat := .failed, ident := none, lastError := some ⟨kind, .identify, index⟩ }
    events := insertSeat o.slot (.identFailed kind) s.events } o.kind o.slot

/-- The part once an IDENTIFY has brought a valid ident: its slot ONLINE, the operation ended (R10, R40). -/
def State.identifySeated (s : State) (o : Operation) (i : Ident) : State :=
  State.operationEnd { s with
    op := none
    slots := s.slots.set o.slot { s.slot o.slot with seat := .online, ident := some i, errorCount := 0 }
    events := insertSeat o.slot .seated s.events } o.kind o.slot

/-- An error outcome takes an IDENTIFYING slot to FAILED (R11). -/
theorem State.endIdentify_error {s : State} {o : Operation} (hn : (s.slot o.slot).seat = .identifying)
    (kind : ErrorKind) (index : Nat) : s.endIdentify o (.error kind index) = s.identifyFailed o kind index := by
  have hn' : (State.slot { s with op := none } o.slot).seat = .identifying := hn
  rw [State.endIdentify, State.identifyOutcome, if_pos hn']
  rfl

/-- A good outcome whose ident passes R9 takes an IDENTIFYING slot ONLINE (R10). -/
theorem State.endIdentify_valid {s : State} {o : Operation} (hn : (s.slot o.slot).seat = .identifying) {w0 w1 : Word}
    (hi : (identOfWords w0 w1).failedCheck = none) :
    s.endIdentify o (.good w0 w1) = s.identifySeated o (identOfWords w0 w1) := by
  have hn' : (State.slot { s with op := none } o.slot).seat = .identifying := hn
  rw [State.endIdentify, State.identifyOutcome, if_pos hn']
  simp only [hi]
  rfl

/-- A good outcome whose ident fails a check of R9 takes an IDENTIFYING slot to FAILED (R9, R11). -/
theorem State.endIdentify_invalid {s : State} {o : Operation} (hn : (s.slot o.slot).seat = .identifying) {w0 w1 : Word}
    {index : Nat} (hi : (identOfWords w0 w1).failedCheck = some index) :
    s.endIdentify o (.good w0 w1) = s.identifyFailed o .badIdent index := by
  have hn' : (State.slot { s with op := none } o.slot).seat = .identifying := hn
  rw [State.endIdentify, State.identifyOutcome, if_pos hn']
  simp only [hi]
  rfl

/-! ## The end of an identify word cycle -/

/-- The end of an identify word cycle does not look at the phase it stood in (R30). -/
theorem State.endIdentifyWord_of_op (s : State) (o : Operation) (p : WordPhase) (op : Option Operation)
    (w : Option Word) (a : Answer) :
    State.endIdentifyWord { s with op := op } { o with phase := p } w a = s.endIdentifyWord o w a := by
  obtain ⟨reply, data, good⟩ := a
  cases reply with
  | take => cases good <;> cases w <;> rfl
  | stop => rfl
  | fault => rfl

/-- An answered word cycle of an IDENTIFY ends as an identify word cycle (R30). -/
theorem State.endWord_of_identify (s : State) {o : Operation} {w : Option Word} (hk : o.kind = .identify w)
    (a : Answer) : s.endWord o a = s.endIdentifyWord o w a := by
  simp [State.endWord, hk]

/-- Where its reply is taken with no release held, an identify word cycle ends as that reply settles it (R27, R30). -/
theorem exec_replyTaken_of_identify {s : State} {o : Operation} {w : Option Word} {lines : BitVec 2} {r : Reply}
    (ho : s.op = some o) (hk : o.kind = .identify w) (hp : o.phase = .strobed) (hh : s.releaseHeld = false)
    (hr : replyOfLines lines = some r) (data : Word) (parity : BitVec 2) :
    exec (.replyTaken lines data parity) s =
      .next (react s (s.endIdentifyWord o w ⟨r, data, parityGood data parity⟩)) := by
  rw [exec_replyTaken_of_strobed ho hp hh hr, State.takeReply_of_kept s o _ (by simp [hk]),
    State.finishWord_of_answer rfl rfl, State.endWord_of_identify (w := w) _ (by exact hk),
    State.endIdentifyWord_of_op]

/-- TAKE with good parity in word cycle 1 brings the good outcome of the two words (R30). -/
theorem State.endIdentifyWord_good (s : State) (o : Operation) (w0 data : Word) {good : Bool} (h : good = true) :
    s.endIdentifyWord o (some w0) ⟨.take, data, good⟩ = s.endIdentify o (.good w0 data) := by
  subst h
  rfl

/-! ## How an identification ends -/

/-- Settles O28: the IDENTIFY ends with the good outcome of its two words, which pass the checks of R9. -/
theorem goodIdentifyTakesTheSlotOnline : Obligations.GoodIdentifyTakesTheSlotOnline := by
  intro s o w0 data parity ho hk hp hh hn hgood hkind hkind' hlimit hlimit'
  have hvalid : (identOfWords w0 data).failedCheck = none := (failedCheck_none_iff w0 data).2 (by omega)
  refine ⟨identOfWords w0 data, identOfWords_identWord w0 data, identOfWords_capabilityWord w0 data,
    identOfWords_cardKind w0 data, rfl, rfl, ?service, identOfWords_burstLimit w0 data, ?revision, ?effect⟩
  case service => simp [identOfWords]
  case revision => simp [identOfWords]
  case effect =>
    rw [exec_replyTaken_of_identify ho hk hp hh (r := .take) rfl, State.endIdentifyWord_good s o w0 data hgood,
      State.endIdentify_valid hn hvalid]
    rfl

/-- Settles O29: the TIMEOUT and each reply that ends the IDENTIFY bring an outcome that fails the slot. -/
theorem failedIdentifyTakesTheSlotToFailed : Obligations.FailedIdentifyTakesTheSlotToFailed := by
  intro s o w ho hk hn failed
  have herror : ∀ kind index, react s (s.endIdentify o (.error kind index)) = failed kind index :=
    fun kind index => by rw [State.endIdentify_error hn]; rfl
  refine ⟨fun hp => ?timeout, fun hp hh data parity => ?replies⟩
  case timeout =>
    rw [exec_responseWindowExpiry_of_no_answer ho hp, ← herror]
    simp [State.timeout, hk]
  case replies =>
    have hreply := fun lines r (hr : replyOfLines lines = some r) =>
      exec_replyTaken_of_identify ho hk hp hh hr data parity
    refine ⟨?stop, ?fault, fun hbad => ?parity, fun w0 hw hgood => ?badIdent⟩
    case stop => rw [hreply _ .stop rfl, ← herror]; rfl
    case fault => rw [hreply _ .fault rfl, ← herror]; rfl
    case parity => rw [hreply _ .take rfl, hbad, ← herror]; rfl
    case badIdent =>
      subst hw
      have hinvalid : ∀ index, (identOfWords w0 data).failedCheck = some index →
          exec (.replyTaken 1#2 data parity) s = .next (failed .badIdent index) := by
        intro index hi
        rw [hreply _ .take rfl, State.endIdentifyWord_good s o w0 data hgood, State.endIdentify_invalid hn hi]
        rfl
      exact ⟨fun hkind => hinvalid 0 ((failedCheck_zero_iff w0 data).2 hkind),
        fun hkind hkind' hlimit => hinvalid 1 ((failedCheck_one_iff w0 data).2 ⟨⟨hkind, hkind'⟩, hlimit⟩)⟩

end Sys2Proof.Machine
end

section
/-! SUPPORT. A COMMAND word that is taken, and the three commands that set a slot's mode or return it to identification
(R17, R18, R125). -/

namespace Sys2Proof.Machine

/-! ## A COMMAND word that is taken -/

/-- The code of a command is taken as that command where the command unit takes one (R148, R157). -/
theorem State.writeCommand_code {s : State} (h : s.takesCommand) (c : Command) :
    s.writeCommand c.code = (s.takeWord c.code).runCommand c := by
  obtain ⟨hrstin, hstarting, hidle⟩ := h
  simp [State.writeCommand, hrstin, hstarting, hidle, commandOf_code]

/-- The slot that the latched operand names (R157). -/
theorem State.operandSlot_opa (s : State) : operandSlot s.cmd.opa = s.named := operandSlot_eq _

/-! ## SET MODE -/

/-- The mode field names a mode by its code (R157, 10 section 10.4). -/
theorem operandMode_eq_some_iff (w : Word) (m : Mode) : operandMode w = some m ↔ m.code.toNat = w.toNat / 16 % 4 := by
  have hfield : (w.extractLsb' 4 2).toNat = w.toNat / 16 % 4 := toNat_field w 4 2
  have hlt : w.toNat / 16 % 4 < 4 := Nat.mod_lt _ (by decide)
  unfold operandMode
  rw [hfield]
  generalize w.toNat / 16 % 4 = k at hlt
  interval_cases k <;> cases m <;> decide

/-- Code 3 names no mode (R157). -/
theorem operandMode_of_three {w : Word} (h : w.toNat / 16 % 4 = 3) : operandMode w = none := by
  have hfield : (w.extractLsb' 4 2).toNat = 3 := (toNat_field w 4 2).trans h
  simp [operandMode, hfield]

/-- SET MODE of a mode stores it in the record of the slot named (R17). -/
theorem State.runSetMode_of_mode {s : State} {m : Mode} (h : operandMode s.cmd.opa = some m) :
    s.runSetMode = react s ((s.setSlot s.named { s.slot s.named with mode := m }).complete .ok 0) := by
  simp [State.runSetMode, h, State.operandSlot_opa]

/-- SET MODE of no mode (R17). -/
theorem State.runSetMode_of_none {s : State} (h : operandMode s.cmd.opa = none) :
    s.runSetMode = s.complete .badOperand 0 := by
  simp [State.runSetMode, h]

/-- Settles O45, by the mode that the mode field names. -/
theorem setModeStoresTheMode : Obligations.SetModeStoresTheMode := by
  intro s h
  have hexec : exec .setMode s = .next (s.takeWord Command.setMode.code).runSetMode :=
    congrArg Host.Outcome.next (State.writeCommand_code h .setMode)
  refine ⟨fun m hm => ?named, fun hcode => ?noMode⟩
  case named =>
    have hmode : operandMode (s.takeWord Command.setMode.code).cmd.opa = some m :=
      (operandMode_eq_some_iff s.cmd.opa m).2 hm
    rw [hexec, State.runSetMode_of_mode hmode, react_takeWord]
    rfl
  case noMode =>
    have hmode : operandMode (s.takeWord Command.setMode.code).cmd.opa = none := operandMode_of_three hcode
    rw [hexec, State.runSetMode_of_none hmode]
    rfl

/-! ## REIDENTIFY and UNFENCE -/

/-- REIDENTIFY returns a FAILED slot to identification (R18). -/
theorem State.runReidentify_of_failed {s : State} (h : (s.slot s.named).seat = .failed) :
    s.runReidentify = react s ((s.setSlot s.named { s.slot s.named with seat := .identifyWait }).complete .ok 0) := by
  rw [State.runReidentify, State.operandSlot_opa]
  exact if_pos h

/-- REIDENTIFY refuses a slot that is not FAILED (R18). -/
theorem State.runReidentify_of_not_failed {s : State} (h : (s.slot s.named).seat ≠ .failed) :
    s.runReidentify = s.complete .wrongState 0 := by
  rw [State.runReidentify, State.operandSlot_opa]
  exact if_neg h

/-- UNFENCE returns a FENCED slot to identification with count 0 (R125). -/
theorem State.runUnfence_of_fenced {s : State} (h : (s.slot s.named).seat = .fenced) :
    s.runUnfence =
      react s ((s.setSlot s.named { s.slot s.named with seat := .identifyWait, errorCount := 0 }).complete .ok 0) := by
  rw [State.runUnfence, State.operandSlot_opa]
  exact if_pos h

/-- UNFENCE refuses a slot that is not FENCED (R125). -/
theorem State.runUnfence_of_not_fenced {s : State} (h : (s.slot s.named).seat ≠ .fenced) :
    s.runUnfence = s.complete .wrongState 0 := by
  rw [State.runUnfence, State.operandSlot_opa]
  exact if_neg h

/-- Settles O46, for each command by the seat state of the slot named. -/
theorem reidentifyAndUnfenceReturnToIdentification : Obligations.ReidentifyAndUnfenceReturnToIdentification := by
  intro s h n
  have hreidentify : exec .reidentify s = .next (s.takeWord Command.reidentify.code).runReidentify :=
    congrArg Host.Outcome.next (State.writeCommand_code h .reidentify)
  have hunfence : exec .unfence s = .next (s.takeWord Command.unfence.code).runUnfence :=
    congrArg Host.Outcome.next (State.writeCommand_code h .unfence)
  refine ⟨fun hfailed => ?failed, fun hother => ?notFailed, fun hfenced => ?fenced, fun hother => ?notFenced⟩
  case failed => rw [hreidentify, State.runReidentify_of_failed (by exact hfailed), react_takeWord]; rfl
  case notFailed => rw [hreidentify, State.runReidentify_of_not_failed (by exact hother)]; rfl
  case fenced => rw [hunfence, State.runUnfence_of_fenced (by exact hfenced), react_takeWord]; rfl
  case notFenced => rw [hunfence, State.runUnfence_of_not_fenced (by exact hother)]; rfl

end Sys2Proof.Machine
end

section
/-! SUPPORT. The arbiter: the claims on the bus, the choice where it is allowed, and the three commands of the chain order
list and the hold state (R44 to R47, R51, R55, R57). -/

namespace Sys2Proof.Machine

/-! ## The claims on the bus -/

/-- A card is attention-capable where its ident record is present and says so (R46). -/
theorem SlotRecord.attentionCapable_iff (r : SlotRecord) :
    r.attentionCapable = true ↔ ∃ i, r.ident = some i ∧ i.attention = true := by
  unfold SlotRecord.attentionCapable
  cases r.ident <;> simp

/-- A card is transfer-capable where its ident record is present and says so (R47). -/
theorem SlotRecord.transferCapable_iff (r : SlotRecord) :
    r.transferCapable = true ↔ ∃ i, r.ident = some i ∧ i.transfer = true := by
  unfold SlotRecord.transferCapable
  cases r.ident <;> simp

/-- In ONLINE the programmed mode is in effect (R16). -/
theorem SlotRecord.effectiveMode_of_online {r : SlotRecord} (h : r.seat = .online) : r.effectiveMode = r.mode := if_pos h

/-- A slot is not queued where no entry of the attention queue is its own (R61). -/
theorem State.queued_eq_false_iff (s : State) (n : Slot) : s.queued n = false ↔ ∀ e ∈ s.attention, e.slot ≠ n := by
  simp [State.queued]

/-- A slot's context is ARMED where it holds a transfer in that state (R92). -/
theorem State.armed_iff (s : State) (n : Slot) :
    s.armed n = true ↔ ∃ x, (s.context n).transfer = some x ∧ x.phase = .armed := by
  unfold State.armed
  cases (s.context n).transfer <;> simp

/-- An attention-eligible slot is ONLINE, and its effective mode is then the programmed one (R46). -/
theorem State.attentionEligible_iff (s : State) (n : Slot) :
    s.attentionEligible n = true ↔
      (s.slot n).seat = .online ∧ ((s.slot n).mode = .join ∨ (s.slot n).mode = .attnOnly) ∧
      (s.slot n).attentionCapable = true ∧ s.lines.areq[n] = true ∧
      s.queued n = false ∧ s.inService[n] = false ∧ s.attention.length < s.control.depth := by
  by_cases hseat : (s.slot n).seat = .online
  · simp [State.attentionEligible, hseat, SlotRecord.effectiveMode_of_online hseat, and_assoc]
  · simp [State.attentionEligible, hseat]

/-- A transfer-eligible slot is ONLINE, and its effective mode is then the programmed one (R47). -/
theorem State.transferEligible_iff (s : State) (n : Slot) :
    s.transferEligible n = true ↔
      (s.slot n).seat = .online ∧ (s.slot n).mode = .join ∧ (s.slot n).transferCapable = true ∧
      s.lines.treq[n] = true ∧ s.armed n = true := by
  by_cases hseat : (s.slot n).seat = .online
  · simp [State.transferEligible, hseat, SlotRecord.effectiveMode_of_online hseat, and_assoc]
  · simp [State.transferEligible, hseat]

/-- Settles O16: each eligibility with the ident record, the queue and the context it looks at. -/
theorem claimsAreTheirConditions : Obligations.ClaimsAreTheirConditions := by
  intro s n
  refine ⟨decide_eq_true_iff, ?attention, ?transfer⟩
  case attention => rw [State.attentionEligible_iff, SlotRecord.attentionCapable_iff, State.queued_eq_false_iff]
  case transfer => rw [State.transferEligible_iff, SlotRecord.transferCapable_iff, State.armed_iff]

/-! ## A choice where the arbiter may choose -/

/-- The arbiter may choose where the host window takes accesses, the bus is free and the hold state RUNNING (R53). -/
theorem State.mayChoose_iff (s : State) :
    s.mayChoose = true ↔ s.takesAccess ∧ (s.op = none ∧ s.clear = false) ∧ s.arb.hold = .running := by
  simp [State.mayChoose, State.ready, State.busFree, and_assoc]

/-- Where the arbiter may choose, the choice starts its operation (R51, R52). -/
theorem State.choose_of_choice {s : State} {c : Choice} (h : s.mayChoose = true) (hc : s.choice = some c) :
    s.choose = s.start c := by
  simp [State.choose, h, hc]

/-- Where no slot holds a claim nothing is started (R51). -/
theorem State.choose_of_no_choice {s : State} (hc : s.choice = none) : s.choose = s := by
  simp [State.choose, hc]

/-! ## SET ORDER -/

/-- No slot number appears twice in a list of eight where no two positions hold the same one (R44). -/
theorem vector_nodup_iff {α : Type} (v : Vector α 8) :
    v.toList.Nodup ↔ ∀ p q : Position, v[p] = v[q] → p = q := by
  have hlist : v.toList = List.ofFn fun p : Position => v[p] := by
    rw [← Vector.toList_ofFn]
    exact congrArg Vector.toList (Vector.ofFn_getElem (xs := v)).symm
  rw [hlist, List.nodup_ofFn]
  rfl

/-- The slot numbers that SET ORDER takes from its operands are those the operands carry (R158). -/
theorem operandOrder_eq_carriedOrder (opa opb : Word) : operandOrder opa opb = carriedOrder opa opb := by
  refine vector_ext_slot fun p => ?_
  fin_cases p <;> exact slotOfBits_field _ _

/-- Four slot numbers taken from a word read back as that word with bits 3, 7, 11 and 15 cleared (R158). -/
theorem orderWord_fields (w : Word) :
    orderWord (slotOfBits (w.extractLsb' 0 3)) (slotOfBits (w.extractLsb' 4 3)) (slotOfBits (w.extractLsb' 8 3))
      (slotOfBits (w.extractLsb' 12 3)) = w &&& 0x7777#16 := by
  simp only [orderWord, bitsOfSlot_slotOfBits]
  refine BitVec.eq_of_getLsbD_eq fun i hi => ?_
  simp only [BitVec.getLsbD_append, BitVec.getLsbD_extractLsb', BitVec.getLsbD_and]
  interval_cases i <;> simp

/-- SET ORDER of a permutation replaces the list (R44). -/
theorem State.runSetOrder_of_nodup {s : State} (h : (carriedOrder s.cmd.opa s.cmd.opb).toList.Nodup) :
    s.runSetOrder =
      { s with arb := { s.arb with order := carriedOrder s.cmd.opa s.cmd.opb } }.complete .ok 0 := by
  rw [State.runSetOrder, operandOrder_eq_carriedOrder]
  exact if_pos h

/-- SET ORDER of a list with a slot number twice keeps the list (R44). -/
theorem State.runSetOrder_of_not_nodup {s : State} (h : ¬(carriedOrder s.cmd.opa s.cmd.opb).toList.Nodup) :
    s.runSetOrder = s.complete .badOperand 0 := by
  rw [State.runSetOrder, operandOrder_eq_carriedOrder]
  exact if_neg h

/-- ORDER_LO and ORDER_HI read the chain order list where the host window takes accesses (R158, 10 section 10.1). -/
theorem State.readRegister_order {s : State} (h : s.takesAccess) :
    s.readRegister 0x19#5 = orderWord s.arb.order[0] s.arb.order[1] s.arb.order[2] s.arb.order[3] ∧
    s.readRegister 0x1A#5 = orderWord s.arb.order[4] s.arb.order[5] s.arb.order[6] s.arb.order[7] := by
  obtain ⟨hrstin, hstarting⟩ := h
  simp [State.readRegister, hrstin, hstarting, State.registerWord]

/-- Where the chain order list is the one two words carry, ORDER_LO and ORDER_HI read those words with bits 3, 7, 11 and
15 cleared (R158). -/
theorem State.readRegister_of_carriedOrder {s : State} {opa opb : Word} (h : s.takesAccess)
    (horder : s.arb.order = carriedOrder opa opb) :
    s.readRegister 0x19#5 = opa &&& 0x7777#16 ∧ s.readRegister 0x1A#5 = opb &&& 0x7777#16 := by
  obtain ⟨hlo, hhi⟩ := State.readRegister_order h
  rw [hlo, hhi, horder, ← operandOrder_eq_carriedOrder]
  exact ⟨orderWord_fields opa, orderWord_fields opb⟩

/-- Settles O47, by whether the operands carry a slot number twice. -/
theorem setOrderTakesAPermutation : Obligations.SetOrderTakesAPermutation := by
  intro s h order replaced
  have hexec : exec .setOrder s = .next (s.takeWord Command.setOrder.code).runSetOrder :=
    congrArg Host.Outcome.next (State.writeCommand_code h .setOrder)
  refine ⟨fun hinj => ⟨?replaces, ?reads⟩, fun ⟨p, q, hpq, heq⟩ => ?refuses⟩
  case replaces =>
    rw [hexec, State.runSetOrder_of_nodup (by exact (vector_nodup_iff order).2 hinj)]
    rfl
  case reads =>
    obtain ⟨hrstin, hstarting, _⟩ := h
    exact State.readRegister_of_carriedOrder (s := replaced) ⟨hrstin, hstarting⟩ rfl
  case refuses =>
    have htwice : ¬order.toList.Nodup := fun hnodup => hpq ((vector_nodup_iff order).1 hnodup p q heq)
    rw [hexec, State.runSetOrder_of_not_nodup (by exact htwice)]
    rfl

/-! ## HOLD and RESUME -/

/-- HOLD in RUNNING with no operation in flight (R55). -/
theorem State.runHold_of_no_operation {s : State} (h : s.arb.hold = .running) (ho : s.op = none) :
    s.runHold = { s with arb := { s.arb with hold := .held } }.complete .ok 0 := by
  simp [State.runHold, h, ho]

/-- HOLD in RUNNING with an operation in flight (R55). -/
theorem State.runHold_of_operation {s : State} (h : s.arb.hold = .running) (ho : s.op ≠ none) :
    s.runHold = { s with arb := { s.arb with hold := .holding } }.execute := by
  obtain ⟨o, ho⟩ := Option.ne_none_iff_exists'.1 ho
  simp [State.runHold, h, ho]

/-- HOLD in any hold state but RUNNING (R55). -/
theorem State.runHold_of_not_running {s : State} (h : s.arb.hold ≠ .running) :
    s.runHold = s.complete .wrongState 0 := by
  unfold State.runHold
  split
  · contradiction
  · rfl
  · rfl

/-- RESUME in HELD (R57). -/
theorem State.runResume_of_held {s : State} (h : s.arb.hold = .held) :
    s.runResume = ({ s with arb := { s.arb with hold := .running } }.complete .ok 0).choose := by
  simp [State.runResume, h]

/-- RESUME in any hold state but HELD (R57). -/
theorem State.runResume_of_not_held {s : State} (h : s.arb.hold ≠ .held) :
    s.runResume = s.complete .wrongState 0 := by
  unfold State.runResume
  split
  · contradiction
  · rfl
  · rfl

/-- Settles O48, by the hold state and whether an operation is in flight. -/
theorem holdWaitsOnAnOperation : Obligations.HoldWaitsOnAnOperation := by
  intro s h
  have hexec : exec .hold s = .next (s.takeWord Command.hold.code).runHold :=
    congrArg Host.Outcome.next (State.writeCommand_code h .hold)
  refine ⟨fun hrunning hop => ?atOnce, fun hrunning hop => ?waits, fun hheld => ?refuses⟩
  case atOnce => rw [hexec, State.runHold_of_no_operation (by exact hrunning) (by exact hop)]; rfl
  case waits => rw [hexec, State.runHold_of_operation (by exact hrunning) (by exact hop)]; rfl
  case refuses => rw [hexec, State.runHold_of_not_running (by simp [hheld])]; rfl

/-- Settles O49: the part that RESUME leaves in HELD may choose, so its choice is all that the command adds. -/
theorem resumeMakesAChoice : Obligations.ResumeMakesAChoice := by
  intro s h resumed
  have hexec : exec .resume s = .next (s.takeWord Command.resume.code).runResume :=
    congrArg Host.Outcome.next (State.writeCommand_code h .resume)
  refine ⟨fun hheld hop hclear => ?held, fun hrunning => ?refuses⟩
  case held =>
    have hchoose : exec .resume s = .next resumed.choose := by
      rw [hexec, State.runResume_of_held (by exact hheld)]
      rfl
    obtain ⟨hrstin, hstarting, _⟩ := h
    have hmay : resumed.mayChoose = true :=
      (State.mayChoose_iff resumed).2 ⟨⟨hrstin, hstarting⟩, ⟨hop, hclear⟩, rfl⟩
    exact ⟨fun c hc => by rw [hchoose, State.choose_of_choice hmay hc],
      fun hc => by rw [hchoose, State.choose_of_no_choice hc]⟩
  case refuses => rw [hexec, State.runResume_of_not_held (by simp [hrunning])]; rfl

end Sys2Proof.Machine
end

section
/-! SUPPORT. The attention queue and the in-service set: the entry that an ACKNOWLEDGE brings, and the two commands that
take an entry into service and out of it (R31, R64, R65, R68, R70, R71). -/

namespace Sys2Proof.Machine

/-! ## The end of an ACKNOWLEDGE -/

/-- Where the slot's ident record is present, the entry of a vector carries its service code (R64). -/
theorem State.appendVector_of_ident {s : State} {n : Slot} {i : Ident} (h : (s.slot n).ident = some i) (v : Word) :
    s.appendVector n v = { s with attention := s.attention ++ [⟨n, i.service, v⟩] } := by
  simp [State.appendVector, h]

/-- The end of an acknowledge word cycle does not look at the operation record's phase (R31). -/
theorem State.endAcknowledgeWord_of_op (s : State) (o : Operation) (p : WordPhase) (op : Option Operation)
    (a : Answer) :
    State.endAcknowledgeWord { s with op := op } { o with phase := p } a = s.endAcknowledgeWord o a := by
  obtain ⟨reply, data, good⟩ := a
  cases reply with
  | take => cases good <;> rfl
  | stop => rfl
  | fault => rfl

/-- An answered word cycle of an ACKNOWLEDGE ends as an acknowledge word cycle (R31). -/
theorem State.endWord_of_acknowledge (s : State) {o : Operation} (hk : o.kind = .acknowledge) (a : Answer) :
    s.endWord o a = s.endAcknowledgeWord o a := by
  simp [State.endWord, hk]

/-- Where its reply is taken with no release held, an acknowledge word cycle ends as that reply settles it (R27, R31). -/
theorem exec_replyTaken_of_acknowledge {s : State} {o : Operation} {lines : BitVec 2} {r : Reply}
    (ho : s.op = some o) (hk : o.kind = .acknowledge) (hp : o.phase = .strobed) (hh : s.releaseHeld = false)
    (hr : replyOfLines lines = some r) (data : Word) (parity : BitVec 2) :
    exec (.replyTaken lines data parity) s =
      .next (react s (s.endAcknowledgeWord o ⟨r, data, parityGood data parity⟩)) := by
  rw [exec_replyTaken_of_strobed ho hp hh hr, State.takeReply_of_kept s o _ (by simp [hk]),
    State.finishWord_of_answer rfl rfl, State.endWord_of_acknowledge _ (by exact hk),
    State.endAcknowledgeWord_of_op]

/-- TAKE with good parity delivers the word as the vector (R31). -/
theorem State.endAcknowledgeWord_good (s : State) (o : Operation) (data : Word) {good : Bool} (h : good = true) :
    s.endAcknowledgeWord o ⟨.take, data, good⟩ = s.endAcknowledge o (.vector data) := by
  subst h
  rfl

/-- A vector delivered to a slot whose ident record is present is its entry, and the operation's end (R31, R64). -/
theorem State.endAcknowledge_vector {s : State} {o : Operation} {i : Ident} (hi : (s.slot o.slot).ident = some i)
    (v : Word) :
    s.endAcknowledge o (.vector v) =
      State.operationEnd { s with op := none, attention := s.attention ++ [⟨o.slot, i.service, v⟩] } o.kind o.slot := by
  have hi' : (State.slot { s with op := none } o.slot).ident = some i := hi
  rw [State.endAcknowledge, State.acknowledgeOutcome, State.appendVector_of_ident hi']

/-- Settles O30: TAKE with good parity delivers the vector, STOP withdraws, and each ends the ACKNOWLEDGE. -/
theorem acknowledgeDeliversItsVector : Obligations.AcknowledgeDeliversItsVector := by
  intro s o i data parity ho hk hp hh hi
  have hreply := fun lines r (hr : replyOfLines lines = some r) =>
    exec_replyTaken_of_acknowledge ho hk hp hh hr data parity
  refine ⟨fun hgood => ?delivered, ?withdrawn⟩
  case delivered =>
    rw [hreply _ .take rfl, State.endAcknowledgeWord_good s o data hgood, State.endAcknowledge_vector hi, hk]
  case withdrawn =>
    rw [hreply _ .stop rfl, ← hk]
    rfl

/-! ## TAKE ATTENTION -/

/-- TAKE ATTENTION of an empty queue (R68). -/
theorem State.runTakeAttention_of_nil {s : State} (h : s.attention = []) :
    s.runTakeAttention = s.complete .wrongState 0 := by
  simp [State.runTakeAttention, h]

/-- TAKE ATTENTION where the head is another slot's entry (R68). -/
theorem State.runTakeAttention_of_other {s : State} {e : AttentionEntry} {rest : List AttentionEntry}
    (h : s.attention = e :: rest) (hslot : e.slot ≠ s.named) : s.runTakeAttention = s.complete .stale 0 := by
  simp [State.runTakeAttention, h, State.operandSlot_opa, hslot]

/-- TAKE ATTENTION where the head is the entry of the slot named (R68). -/
theorem State.runTakeAttention_of_named {s : State} {e : AttentionEntry} {rest : List AttentionEntry}
    (h : s.attention = e :: rest) (hslot : e.slot = s.named) :
    s.runTakeAttention =
      react s ({ s with attention := rest, inService := s.inService.set e.slot true }.complete .ok e.vector) := by
  simp [State.runTakeAttention, h, State.operandSlot_opa, hslot]

/-- Settles O50, by the head of the attention queue. -/
theorem takeAttentionTakesTheHeadNamed : Obligations.TakeAttentionTakesTheHeadNamed := by
  intro s h
  have hexec : exec .takeAttention s = .next (s.takeWord Command.takeAttention.code).runTakeAttention :=
    congrArg Host.Outcome.next (State.writeCommand_code h .takeAttention)
  refine ⟨fun hnil => ?empty, fun e rest hhead => ⟨fun hother => ?stale, fun hslot => ?taken⟩⟩
  case empty => rw [hexec, State.runTakeAttention_of_nil (by exact hnil)]; rfl
  case stale => rw [hexec, State.runTakeAttention_of_other (by exact hhead) (by exact hother)]; rfl
  case taken =>
    rw [hexec, State.runTakeAttention_of_named (by exact hhead) (by exact hslot), react_takeWord]
    rfl

/-! ## RETIRE -/

/-- RETIRE of a slot in the in-service set (R70). -/
theorem State.runRetire_of_inService {s : State} (h : s.inService[s.named] = true) :
    s.runRetire = react s ({ s with inService := s.inService.set s.named false }.complete .ok 0) := by
  simp [State.runRetire, State.operandSlot_opa, h]

/-- RETIRE of a slot that is not in the in-service set (R70). -/
theorem State.runRetire_of_not_inService {s : State} (h : s.inService[s.named] = false) :
    s.runRetire = s.complete .wrongState 0 := by
  simp [State.runRetire, State.operandSlot_opa, h]

/-- Settles O51, by whether the slot named is in the in-service set. -/
theorem retireTakesASlotOutOfService : Obligations.RetireTakesASlotOutOfService := by
  intro s h
  have hexec : exec .retire s = .next (s.takeWord Command.retire.code).runRetire :=
    congrArg Host.Outcome.next (State.writeCommand_code h .retire)
  refine ⟨fun hin => ?retires, fun hout => ?refuses⟩
  case retires => rw [hexec, State.runRetire_of_inService (by exact hin), react_takeWord]; rfl
  case refuses => rw [hexec, State.runRetire_of_not_inService (by exact hout)]; rfl

end Sys2Proof.Machine
end

section
/-! SUPPORT. The transfer store and its window: which word a context offset names, and what an access of STORE_DATA reaches
(R79, R84, R86 to R89). -/

namespace Sys2Proof.Machine

/-! ## Offsets of one context -/

/-- The pages a context holds say which word each offset names (R84). -/
theorem Transfer.address_eq_some_iff (x : Transfer) (o a : Nat) :
    x.address o = some a ↔ ∃ p : Page, x.pages[o / 32]? = some p ∧ p.val * 32 + o % 32 = a :=
  Option.map_eq_some_iff

/-- An offset is not valid where the page it would lie in is past the page list (R84). -/
theorem Transfer.address_eq_none_iff (x : Transfer) (o : Nat) : x.address o = none ↔ 32 * x.pages.length ≤ o := by
  have hpage : x.address o = none ↔ x.pages.length ≤ o / 32 := Option.map_eq_none_iff.trans List.getElem?_eq_none_iff
  rw [hpage, Nat.le_div_iff_mul_le (by decide), Nat.mul_comm]

/-- The word an offset names has its number in the page from the offset, and lies in a page of the context (R84). -/
theorem Transfer.page_of_address {x : Transfer} {o a : Nat} (h : x.address o = some a) :
    a % 32 = o % 32 ∧ ∃ p : Page, x.pages[o / 32]? = some p ∧ p.val = a / 32 := by
  obtain ⟨p, hp, rfl⟩ := (x.address_eq_some_iff o a).1 h
  exact ⟨by omega, p, hp, by omega⟩

/-- A page list that names no page twice gives each of its words one offset (R79, R84). -/
theorem Transfer.offset_unique {x : Transfer} (hnodup : x.pages.Nodup) {o o' a : Nat} (h : x.address o = some a)
    (h' : x.address o' = some a) : o = o' := by
  obtain ⟨hword, p, hp, hpa⟩ := x.page_of_address h
  obtain ⟨hword', q, hq, hqa⟩ := x.page_of_address h'
  have hpq : p = q := Fin.ext (hpa.trans hqa.symm)
  have hlt : o / 32 < x.pages.length := (List.getElem?_eq_some_iff.1 hp).1
  have hindex : o / 32 = o' / 32 := (List.getElem?_inj hlt hnodup).1 (by rw [hp, hq, hpq])
  omega

/-! ## Every page on one list -/

theorem State.heldPages_of_transfer {s : State} {n : Slot} {x : Transfer} (h : (s.context n).transfer = some x) :
    s.heldPages n = x.pages := by
  simp [State.heldPages, h]

/-- Under the law of R79 the free page list and the page lists of the slots, one after the other, name no page twice. -/
theorem State.pages_nodup {s : State} (h : s.pageLaw) : (s.freePages ++ allSlots.flatMap s.heldPages).Nodup := by
  obtain ⟨hperm, _⟩ := h
  exact hperm.nodup_iff.2 (List.nodup_ofFn.2 Function.injective_id)

/-- No slot's page list names a page twice (R79). -/
theorem State.heldPages_nodup {s : State} (h : s.pageLaw) (n : Slot) : (s.heldPages n).Nodup :=
  (List.nodup_flatMap.1 (State.pages_nodup h).of_append_right).1 n (mem_allSlots n)

/-- A page is on one slot's list alone (R79). -/
theorem State.holder_unique {s : State} (h : s.pageLaw) {n m : Slot} {p : Page} (hn : p ∈ s.heldPages n)
    (hm : p ∈ s.heldPages m) : n = m := by
  have hpairs := (List.nodup_flatMap.1 (State.pages_nodup h).of_append_right).2
  have : Std.Symm (Function.onFun List.Disjoint s.heldPages) := ⟨fun _ _ hdisjoint => hdisjoint.symm⟩
  by_contra hne
  exact hpairs.forall (mem_allSlots n) (mem_allSlots m) hne hn hm

/-- A page that a slot's context holds is not free (R79). -/
theorem State.not_free_of_held {s : State} (h : s.pageLaw) {n : Slot} {p : Page} (hn : p ∈ s.heldPages n) :
    p ∉ s.freePages := fun hfree =>
  List.disjoint_of_nodup_append (State.pages_nodup h) hfree (List.mem_flatMap.2 ⟨n, mem_allSlots n, hn⟩)

/-- A word that an open context names lies in a page the slot holds (R84). -/
theorem State.held_of_address {s : State} {n : Slot} {x : Transfer} {o a : Nat} (hx : (s.context n).transfer = some x)
    (h : x.address o = some a) : ∃ p ∈ s.heldPages n, p.val = a / 32 := by
  obtain ⟨_, p, hp, hpa⟩ := x.page_of_address h
  exact ⟨p, State.heldPages_of_transfer hx ▸ List.mem_of_getElem? hp, hpa⟩

/-- Settles O42: the page of a word has one holder, and the holder's list names it once. -/
theorem offsetsNameWordsOfTheirOwnPages : Obligations.OffsetsNameWordsOfTheirOwnPages := by
  refine ⟨fun x o => ⟨?valid, fun p hp => ?word⟩, fun s n m x y o o' a hlaw hx hy ha ha' => ?apart⟩
  case valid => rw [Ne, Transfer.address_eq_none_iff, not_le]
  case word => exact (x.address_eq_some_iff o _).2 ⟨p, hp, rfl⟩
  case apart =>
    obtain ⟨p, hp, hpa⟩ := State.held_of_address hx ha
    obtain ⟨q, hq, hqa⟩ := State.held_of_address hy ha'
    have hpq : p = q := Fin.ext (hpa.trans hqa.symm)
    obtain rfl : n = m := State.holder_unique hlaw hp (hpq ▸ hq)
    obtain rfl : x = y := Option.some.inj (hx.symm.trans hy)
    have hnodup : x.pages.Nodup := State.heldPages_of_transfer hx ▸ State.heldPages_nodup hlaw n
    refine ⟨rfl, Transfer.offset_unique hnodup ha ha', fun f hf hfa => ?_⟩
    have hfp : f = p := Fin.ext (hfa.trans hpa.symm)
    exact State.not_free_of_held hlaw hp (hfp ▸ hf)

/-! ## Accesses of STORE_DATA -/

/-- A context is open to a read of STORE_DATA in each state but ARMED (R87). -/
theorem Phase.admits_read_iff (p : Phase) : p.admits false = true ↔ p ≠ .armed := by
  cases p <;> simp [Phase.admits]

/-- A context is open to a write of STORE_DATA in LOADING alone (R88). -/
theorem Phase.admits_write_iff (p : Phase) : p.admits true = true ↔ p = .loading := by
  cases p <;> simp [Phase.admits]

/-- An access to an open context that admits it reaches the word at the pointer's offset (R87, R88). -/
theorem State.windowAddress_of_admits {s : State} {x : Transfer} {write : Bool}
    (hx : (s.context s.pointer.slot).transfer = some x) (h : x.phase.admits write = true) :
    s.windowAddress write = x.address s.pointer.offset.toNat := by
  simp [State.windowAddress, hx, h]

/-- An access to a slot with no open context reaches no word (R89). -/
theorem State.windowAddress_of_no_context {s : State} (h : (s.context s.pointer.slot).transfer = none) (write : Bool) :
    s.windowAddress write = none := by
  simp [State.windowAddress, h]

/-- An access that the context's state does not admit, or at an offset that is not valid, reaches no word (R89). -/
theorem State.windowAddress_of_refused {s : State} {x : Transfer} {write : Bool}
    (hx : (s.context s.pointer.slot).transfer = some x)
    (h : x.phase.admits write = true → x.address s.pointer.offset.toNat = none) : s.windowAddress write = none := by
  simpa [State.windowAddress, hx] using h

theorem State.ready_of_takesAccess {s : State} (h : s.takesAccess) : s.ready = true := by
  obtain ⟨hrstin, hstarting⟩ := h
  simp [State.ready, hrstin, hstarting]

/-- A read of STORE_DATA that reaches a word presents it and advances the offset (R87). -/
theorem exec_storeDataRead_of_reached {s : State} {a : Nat} (h : s.takesAccess) (ha : s.windowAddress false = some a) :
    exec .storeDataRead s =
      .next { s with readData := some (s.store.read a),
                     pointer := { s.pointer with offset := s.pointer.offset + 1#12 } } := by
  simp [exec, execStoreDataRead, State.readStoreData, State.ready_of_takesAccess h, ha, StorePointer.advance]

/-- A read of STORE_DATA that reaches no word presents 0 and sets WINDOW_FAULT (R89). -/
theorem exec_storeDataRead_of_refused {s : State} (h : s.takesAccess) (ha : s.windowAddress false = none) :
    exec .storeDataRead s = .next { s with readData := some 0#16, windowFault := true } := by
  simp [exec, execStoreDataRead, State.readStoreData, State.ready_of_takesAccess h, ha]

/-- A write of STORE_DATA that reaches a word stores it and advances the offset (R88). -/
theorem exec_storeDataWrite_of_reached {s : State} {a : Nat} (h : s.takesAccess) (ha : s.windowAddress true = some a)
    (w : Word) :
    exec (.storeDataWrite w) s =
      .next { s with store := s.store.write a w,
                     pointer := { s.pointer with offset := s.pointer.offset + 1#12 } } := by
  simp [exec, execStoreDataWrite, State.writeStoreData, State.ready_of_takesAccess h, ha, StorePointer.advance]

/-- A write of STORE_DATA that reaches no word sets WINDOW_FAULT (R89). -/
theorem exec_storeDataWrite_of_refused {s : State} (h : s.takesAccess) (ha : s.windowAddress true = none) (w : Word) :
    exec (.storeDataWrite w) s = .next { s with windowFault := true } := by
  simp [exec, execStoreDataWrite, State.writeStoreData, State.ready_of_takesAccess h, ha]

/-- Settles O41, by the word the access reaches. -/
theorem storeWindowMovesAWordOrRefuses : Obligations.StoreWindowMovesAWordOrRefuses := by
  intro s w h context advanced
  refine ⟨fun x a hx ha => ⟨fun hphase => ?read, fun hphase => ?write⟩, fun hrefused => ?readRefused,
    fun hrefused => ?writeRefused⟩
  case read =>
    have hreached := State.windowAddress_of_admits hx (x.phase.admits_read_iff.2 hphase)
    exact exec_storeDataRead_of_reached h (hreached.trans ha)
  case write =>
    have hreached := State.windowAddress_of_admits hx (x.phase.admits_write_iff.2 hphase)
    exact exec_storeDataWrite_of_reached h (hreached.trans ha) w
  case readRefused =>
    refine exec_storeDataRead_of_refused h ?_
    rcases hrefused with hnone | ⟨x, hx, harmed | hoffset⟩
    · exact State.windowAddress_of_no_context hnone _
    · exact State.windowAddress_of_refused hx fun hadmits => absurd harmed (x.phase.admits_read_iff.1 hadmits)
    · exact State.windowAddress_of_refused hx fun _ => hoffset
  case writeRefused =>
    refine exec_storeDataWrite_of_refused h ?_ w
    rcases hrefused with hnone | ⟨x, hx, hphase | hoffset⟩
    · exact State.windowAddress_of_no_context hnone _
    · exact State.windowAddress_of_refused hx fun hadmits => absurd (x.phase.admits_write_iff.1 hadmits) hphase
    · exact State.windowAddress_of_refused hx fun _ => hoffset

end Sys2Proof.Machine
end

section
/-! SUPPORT. The transfer contexts: the end asked of a burst in flight, and the four commands that open, arm, halt and
close a context (R36, R80 to R82, R94, R96, R106 to R108, R111). -/

namespace Sys2Proof.Machine

/-! ## Halting, and a bus in use -/

/-- Halting an ARMED context (R102). -/
theorem State.halt_of_armed {s : State} {n : Slot} {x : Transfer} (hx : (s.context n).transfer = some x)
    (harmed : x.phase = .armed) (r : HaltReason) :
    s.halt n r =
      { s with
        contexts := s.contexts.set n { s.context n with transfer := some { x with phase := .halted r } }
        events := s.events ++ [haltedEntry n x r] } := by
  simp [State.halt_eq, State.haltEntries, hx, harmed, Transfer.haltIfArmed]

/-- With an operation in flight the arbiter makes no choice (R53). -/
theorem react_of_operation {before after : State} {o : Operation} (h : after.op = some o) :
    react before after = after :=
  react_of_not_mayChoose (by simp [State.mayChoose, State.busFree, h])

/-! ## OPEN -/

/-- The direction field of OPEN by the operand's number (R157). -/
theorem operandDirection_eq (w : Word) :
    operandDirection w = if w.toNat / 8 % 2 = 1 then .output else .input := by
  rw [operandDirection, getLsbD_eq_decide]
  simp

/-- The tag field of OPEN by the operand's number (R157). -/
theorem operandTag_eq (w : Word) : operandTag w = BitVec.ofNat 8 (w.toNat / 256) := by
  apply BitVec.eq_of_toNat_eq
  simp only [operandTag, toNat_field, BitVec.toNat_ofNat, Nat.reducePow]

/-- OPEN of a context that is not CLOSED (R94). -/
theorem State.runOpen_of_open {s : State} (h : (s.context s.named).transfer ≠ none) :
    s.runOpen = s.complete .wrongState 0 := by
  obtain ⟨x, hx⟩ := Option.ne_none_iff_exists'.1 h
  simp [State.runOpen, State.operandSlot_opa, hx]

/-- OPEN of a CLOSED context with a count that OPEN does not take (R94). -/
theorem State.runOpen_of_bad_count {s : State} (h : (s.context s.named).transfer = none)
    (hcount : s.cmd.opb.toNat = 0 ∨ 2048 < s.cmd.opb.toNat) : s.runOpen = s.complete .badOperand 0 := by
  simp only [State.runOpen, State.operandSlot_opa, h]
  exact if_pos hcount

/-- OPEN of a CLOSED context for which too few pages are free (R80, R94). -/
theorem State.runOpen_of_no_space {s : State} (h : (s.context s.named).transfer = none)
    (hmin : 1 ≤ s.cmd.opb.toNat) (hmax : s.cmd.opb.toNat ≤ 2048)
    (hspace : s.freePages.length < pagesFor s.cmd.opb.toNat) : s.runOpen = s.complete .noSpace 0 := by
  have hcount : ¬(s.cmd.opb.toNat = 0 ∨ Config.storeWords < s.cmd.opb.toNat) := by
    simp only [Config.storeWords]
    omega
  simp only [State.runOpen, State.operandSlot_opa, h, if_neg hcount]
  split
  · rfl
  · exact if_pos hspace

/-- OPEN of a CLOSED context with enough free pages takes them from the head of the free page list (R80, R81, R94). -/
theorem State.runOpen_of_space {s : State} {first : Page} {rest : List Page}
    (h : (s.context s.named).transfer = none) (hmin : 1 ≤ s.cmd.opb.toNat) (hmax : s.cmd.opb.toNat ≤ 2048)
    (hspace : pagesFor s.cmd.opb.toNat ≤ s.freePages.length) (hfirst : s.freePages = first :: rest) :
    s.runOpen =
      ({ s with freePages := s.freePages.drop (pagesFor s.cmd.opb.toNat) }.setContext s.named
        { transfer := some
            { phase := .loading, direction := operandDirection s.cmd.opa, count := s.cmd.opb.toNat, moved := 0,
              tag := operandTag s.cmd.opa, pages := s.freePages.take (pagesFor s.cmd.opb.toNat) }
          abortPending := false }).complete .ok (BitVec.ofNat 16 first.val) := by
  have hcount : ¬(s.cmd.opb.toNat = 0 ∨ Config.storeWords < s.cmd.opb.toNat) := by
    simp only [Config.storeWords]
    omega
  simp only [State.runOpen, State.operandSlot_opa, h, if_neg hcount, if_neg (not_lt.2 hspace)]
  simp only [hfirst]

/-- Settles O52, by the first check that fails. -/
theorem openAllocatesPages : Obligations.OpenAllocatesPages := by
  intro s h n count need
  have hexec : exec .openContext s = .next (s.takeWord Command.openContext.code).runOpen :=
    congrArg Host.Outcome.next (State.writeCommand_code h .openContext)
  refine ⟨fun hopen => ?wrongState, fun hclosed hcount => ?badOperand, fun hclosed hmin hmax hspace => ?noSpace,
    fun hclosed hmin hmax hspace first rest hfirst => ?opens⟩
  case wrongState => rw [hexec, State.runOpen_of_open (by exact hopen)]; rfl
  case badOperand => rw [hexec, State.runOpen_of_bad_count (by exact hclosed) (by exact hcount)]; rfl
  case noSpace =>
    rw [hexec, State.runOpen_of_no_space (by exact hclosed) (by exact hmin) (by exact hmax) (by exact hspace)]
    rfl
  case opens =>
    rw [hexec, State.runOpen_of_space (by exact hclosed) (by exact hmin) (by exact hmax) (by exact hspace)
      (by exact hfirst), operandDirection_eq, operandTag_eq]
    rfl

/-! ## ARM -/

/-- ARM of a context that is not LOADING (R96). -/
theorem State.runArm_of_not_loading {s : State}
    (h : ∀ x, (s.context s.named).transfer = some x → x.phase ≠ .loading) :
    s.runArm = s.complete .wrongState 0 := by
  rw [State.runArm, State.operandSlot_opa]
  split
  · next x hx => exact if_neg (h x hx)
  · rfl

/-- ARM of a LOADING context whose slot may not carry a transfer (R96). -/
theorem State.runArm_of_not_ready {s : State} {x : Transfer} (hx : (s.context s.named).transfer = some x)
    (hphase : x.phase = .loading)
    (h : ¬((s.slot s.named).seat = .online ∧ (s.slot s.named).transferCapable = true)) :
    s.runArm = s.complete .notReady 0 := by
  simp only [State.runArm, State.operandSlot_opa, hx, if_pos hphase]
  exact if_neg h

/-- ARM of a LOADING context whose slot may carry a transfer (R96). -/
theorem State.runArm_of_ready {s : State} {x : Transfer} (hx : (s.context s.named).transfer = some x)
    (hphase : x.phase = .loading)
    (h : (s.slot s.named).seat = .online ∧ (s.slot s.named).transferCapable = true) :
    s.runArm = react s ((s.setTransfer s.named { x with phase := .armed }).complete .ok 0) := by
  simp only [State.runArm, State.operandSlot_opa, hx, if_pos hphase]
  exact if_pos h

/-- Settles O53, by the context's state and then by the slot's. -/
theorem armOpensAContextToItsCard : Obligations.ArmOpensAContextToItsCard := by
  intro s h n capable
  have hexec : exec .arm s = .next (s.takeWord Command.arm.code).runArm :=
    congrArg Host.Outcome.next (State.writeCommand_code h .arm)
  have hcapable : capable ↔ (s.slot n).seat = .online ∧ (s.slot n).transferCapable = true :=
    and_congr_right' (SlotRecord.transferCapable_iff _).symm
  refine ⟨fun hother => ?wrongState, fun x hx hphase => ⟨fun hnot => ?notReady, fun hready => ?arms⟩⟩
  case wrongState => rw [hexec, State.runArm_of_not_loading (by exact hother)]; rfl
  case notReady =>
    rw [hexec, State.runArm_of_not_ready (by exact hx) hphase (by exact mt hcapable.2 hnot)]
    rfl
  case arms =>
    rw [hexec, State.runArm_of_ready (by exact hx) hphase (by exact hcapable.1 hready), react_takeWord]
    rfl

/-! ## A burst asked to end -/

/-- The burst in flight of a slot, by its parts (R98). -/
theorem State.burstInFlight_of_burst {s : State} {n : Slot} {o : Operation} {b : Burst} (ho : s.op = some o)
    (hb : o.kind = .burst b) (hslot : o.slot = n) : s.burstInFlight n = true := by
  obtain ⟨kind, slot, index, window, phase⟩ := o
  cases hb
  simpa [State.burstInFlight, ho] using hslot

/-- From phase 3 of its word cycle on, a burst asked to end goes on with boundary requested (R36). -/
theorem State.requestBoundary_of_strobed {s : State} {n : Slot} {o : Operation} {b : Burst} (ho : s.op = some o)
    (hb : o.kind = .burst b) (hslot : o.slot = n) (hphase : o.phase ≠ .begun) :
    s.requestBoundary n = { s with op := some { o with kind := .burst { b with boundary := true } } } := by
  obtain ⟨kind, slot, index, window, phase⟩ := o
  obtain ⟨direction, size, moved, boundary, driven⟩ := b
  cases hb
  cases hslot
  cases boundary with
  | true =>
    simp only [State.requestBoundary, ho]
    rw [if_neg (by simp), ← ho]
  | false =>
    simp only [State.requestBoundary, ho]
    cases phase with
    | begun => contradiction
    | strobed => rfl
    | answered a => rfl
    | released a => rfl

/-- Before its strobe a burst asked to end ends at once with BOUNDARY (R36). -/
theorem State.requestBoundary_of_begun {s : State} {n : Slot} {o : Operation} {b : Burst} (ho : s.op = some o)
    (hb : o.kind = .burst b) (hslot : o.slot = n) (hphase : o.phase = .begun) (hboundary : b.boundary = false) :
    s.requestBoundary n = s.endBurst { o with kind := .burst { b with boundary := true } } .boundary := by
  obtain ⟨kind, slot, index, window, phase⟩ := o
  cases hb
  cases hslot
  cases hphase
  simp [State.requestBoundary, ho, hboundary]

/-- A burst that ends with BOUNDARY under a waiting ABORT, its slot below the threshold, halts its ARMED context and
completes the ABORT (R101, R108). -/
theorem State.endBurst_boundary_of_aborted {s : State} {n : Slot} {o : Operation} {x : Transfer} (hslot : o.slot = n)
    (hx : (s.context n).transfer = some x) (harmed : x.phase = .armed) (hpending : (s.context n).abortPending = true)
    (hfence : (s.slot n).fencedAt s.control.threshold = false) :
    s.endBurst o .boundary =
      State.operationEnd { s with
        op := none
        contexts := s.contexts.set n { transfer := some { x with phase := .halted .aborted }, abortPending := false }
        events := s.events ++ [haltedEntry n x .aborted]
        cmd := { s.cmd with executing := none, result := .ok, resultData := BitVec.ofNat 16 x.moved } }
        o.kind n := by
  subst hslot
  rw [State.endBurst, State.burstOutcome,
    State.judge_settleAbort_eq { s with op := none } o.slot x none (by exact hx) harmed,
    State.burstSettled_of_aborted { s with op := none } o.slot x none (by exact hfence) (by exact hpending)]

/-! ## ABORT -/

/-- The part once an ABORT has been taken that waits on the burst of a slot (R107). -/
def State.abortWaits (s : State) (n : Slot) : State :=
  s.execute.setContext n { s.context n with abortPending := true }

theorem State.abortWaits_context (s : State) (n : Slot) :
    (s.abortWaits n).context n = { s.context n with abortPending := true } := by
  simp [State.abortWaits]

/-- ABORT of a context that is not ARMED (R106). -/
theorem State.runAbort_of_not_armed {s : State}
    (h : ∀ x, (s.context s.named).transfer = some x → x.phase ≠ .armed) :
    s.runAbort = s.complete .wrongState 0 := by
  rw [State.runAbort, State.operandSlot_opa]
  split
  · next x hx => exact if_neg (h x hx)
  · rfl

/-- ABORT of an ARMED context with no burst of its slot in flight (R106). -/
theorem State.runAbort_of_no_burst {s : State} {x : Transfer} (hx : (s.context s.named).transfer = some x)
    (harmed : x.phase = .armed) (hburst : s.burstInFlight s.named = false) :
    s.runAbort = react s ((s.halt s.named .aborted).complete .ok (BitVec.ofNat 16 x.moved)) := by
  simp [State.runAbort, State.operandSlot_opa, hx, harmed, hburst]

/-- ABORT of an ARMED context with a burst of its slot in flight asks for the burst's end (R106, R107). -/
theorem State.runAbort_of_burst {s : State} {x : Transfer} (hx : (s.context s.named).transfer = some x)
    (harmed : x.phase = .armed) (hburst : s.burstInFlight s.named = true) :
    s.runAbort = react s ((s.abortWaits s.named).requestBoundary s.named) := by
  simp [State.runAbort, State.operandSlot_opa, hx, harmed, hburst, State.abortWaits]

/-- ABORT of an ARMED context from phase 3 of its burst's word cycle on: the command waits for the burst's end (R36,
R107). -/
theorem State.runAbort_of_strobed {s : State} {x : Transfer} {o : Operation} {b : Burst}
    (hx : (s.context s.named).transfer = some x) (harmed : x.phase = .armed) (ho : s.op = some o)
    (hb : o.kind = .burst b) (hslot : o.slot = s.named) (hphase : o.phase ≠ .begun) :
    s.runAbort = { s.abortWaits s.named with op := some { o with kind := .burst { b with boundary := true } } } := by
  rw [State.runAbort_of_burst hx harmed (State.burstInFlight_of_burst ho hb hslot),
    State.requestBoundary_of_strobed (by exact ho) hb hslot hphase]
  exact react_of_operation rfl

/-- ABORT of an ARMED context before the strobe of its burst, its slot below the threshold: the burst ends, and that
completes the command (R36, R108). -/
theorem State.runAbort_of_begun {s : State} {x : Transfer} {o : Operation} {b : Burst}
    (hx : (s.context s.named).transfer = some x) (harmed : x.phase = .armed) (ho : s.op = some o)
    (hb : o.kind = .burst b) (hslot : o.slot = s.named) (hphase : o.phase = .begun) (hboundary : b.boundary = false)
    (hfence : (s.slot s.named).fencedAt s.control.threshold = false) :
    s.runAbort =
      react s (State.operationEnd { s with
        op := none
        contexts := s.contexts.set s.named
          { transfer := some { x with phase := .halted .aborted }, abortPending := false }
        events := s.events ++ [haltedEntry s.named x .aborted]
        cmd := { s.cmd with executing := none, result := .ok, resultData := BitVec.ofNat 16 x.moved } }
        o.kind s.named) := by
  have hcontext := s.abortWaits_context s.named
  rw [State.runAbort_of_burst hx harmed (State.burstInFlight_of_burst ho hb hslot),
    State.requestBoundary_of_begun (by exact ho) hb hslot hphase hboundary,
    State.endBurst_boundary_of_aborted (n := s.named) (by exact hslot) (by rw [hcontext]; exact hx) harmed
      (by rw [hcontext]) (by exact hfence)]
  simp only [State.abortWaits, State.setContext_contexts, Vector.set_set, hb]
  rfl

/-- Settles O54, by the context's state and the phase of the burst in flight. -/
theorem abortHaltsOrWaits : Obligations.AbortHaltsOrWaits := by
  intro s h n
  have hexec : exec .abort s = .next (s.takeWord Command.abort.code).runAbort :=
    congrArg Host.Outcome.next (State.writeCommand_code h .abort)
  refine ⟨fun hother => ?wrongState, fun x hx harmed => ⟨fun hburst => ?halts, fun o b ho hb hslot =>
    ⟨fun hphase => ?waits, fun hphase hboundary hfence => ?ends⟩⟩⟩
  case wrongState => rw [hexec, State.runAbort_of_not_armed (by exact hother)]; rfl
  case halts =>
    rw [hexec, State.runAbort_of_no_burst (by exact hx) harmed (by exact hburst), react_takeWord,
      State.halt_of_armed (by exact hx) harmed]
    rfl
  case waits =>
    rw [hexec, State.runAbort_of_strobed (by exact hx) harmed (by exact ho) hb (by exact hslot) hphase]
    rfl
  case ends =>
    rw [hexec, State.runAbort_of_begun (by exact hx) harmed (by exact ho) hb (by exact hslot) hphase hboundary
      (by exact hfence), react_takeWord]
    rfl

/-! ## CLOSE -/

/-- The TRANSFER-class entry of a slot stands in a list of entries (R111). -/
theorem any_isTransferOf_iff (n : Slot) (es : List Event) :
    es.any (Event.isTransferOf n) = true ↔
      ∃ ending tag direction words, .transfer n ending tag direction words ∈ es := by
  rw [List.any_eq_true]
  constructor
  · rintro ⟨e, hmem, he⟩
    cases e with
    | seat m change k => cases he
    | transfer m ending tag direction words =>
      obtain rfl : m = n := eq_of_beq he
      exact ⟨ending, tag, direction, words, hmem⟩
  · rintro ⟨ending, tag, direction, words, hmem⟩
    exact ⟨_, hmem, beq_self_eq_true n⟩

/-- CLOSE of a context that is CLOSED or ARMED (R111). -/
theorem State.runClose_of_closed_or_armed {s : State}
    (h : ∀ x, (s.context s.named).transfer = some x → x.phase = .armed) :
    s.runClose = s.complete .wrongState 0 := by
  rw [State.runClose, State.operandSlot_opa]
  split
  · next x hx => simp [h x hx]
  · rfl

/-- CLOSE of a DONE or HALTED context whose entry is still queued (R111). -/
theorem State.runClose_of_queued {s : State} {x : Transfer} (hx : (s.context s.named).transfer = some x)
    (harmed : x.phase ≠ .armed) (hloading : x.phase ≠ .loading)
    (hqueued : s.events.any (Event.isTransferOf s.named) = true) : s.runClose = s.complete .eventPending 0 := by
  simp only [State.runClose, State.operandSlot_opa, hx]
  cases hphase : x.phase with
  | armed => contradiction
  | loading => contradiction
  | done => exact if_pos hqueued
  | halted r => exact if_pos hqueued

/-- CLOSE of a LOADING context, or of a DONE or HALTED one whose entry is no longer queued (R82, R111). -/
theorem State.runClose_of_passed {s : State} {x : Transfer} (hx : (s.context s.named).transfer = some x)
    (harmed : x.phase ≠ .armed)
    (h : x.phase = .loading ∨ ¬s.events.any (Event.isTransferOf s.named) = true) :
    s.runClose = (s.closeContext s.named x).complete .ok 0 := by
  simp only [State.runClose, State.operandSlot_opa, hx]
  cases hphase : x.phase with
  | armed => contradiction
  | loading => rfl
  | done => exact if_neg (h.resolve_left (by simp [hphase]))
  | halted r => exact if_neg (h.resolve_left (by simp [hphase]))

/-- Settles O55, by the context's state and whether its entry is queued. -/
theorem closeReturnsPages : Obligations.CloseReturnsPages := by
  intro s h n queued
  have hexec : exec .close s = .next (s.takeWord Command.close.code).runClose :=
    congrArg Host.Outcome.next (State.writeCommand_code h .close)
  have hqueue : s.events.any (Event.isTransferOf n) = true ↔ queued := any_isTransferOf_iff n s.events
  refine ⟨fun hnone => ?wrongState, fun x hx harmed =>
    ⟨fun hloading hqueued => ?eventPending, fun hpassed => ?closes⟩⟩
  case wrongState => rw [hexec, State.runClose_of_closed_or_armed (by exact hnone)]; rfl
  case eventPending =>
    rw [hexec, State.runClose_of_queued (by exact hx) harmed hloading (by exact hqueue.2 hqueued)]
    rfl
  case closes =>
    rw [hexec, State.runClose_of_passed (by exact hx) harmed (by exact hpassed.imp_right (mt hqueue.1))]
    rfl

end Sys2Proof.Machine
end

section
/-! SUPPORT. The contexts and the event queue as every step keeps them, and NEXT EVENT (R93, R102, R112, R128, R135). -/

namespace Sys2Proof.Machine

/-! ## The terms of the reports' law -/

/-- What the reports' law says of an open context alone (R93). -/
abbrev Transfer.countLaw (x : Transfer) : Prop :=
  x.moved ≤ x.count ∧ (x.moved = x.count ↔ x.phase = .done) ∧ (x.phase = .loading → x.moved = 0)

/-- No TRANSFER-class entry of the slot is queued. -/
def State.unreported (s : State) (n : Slot) : Prop := ∀ e ∈ s.events, Event.isTransferOf n e = false

section

variable {s : State} {n : Slot}

theorem State.unreported_iff_any : s.unreported n ↔ ¬s.events.any (Event.isTransferOf n) = true := by
  simp [State.unreported]

theorem State.countLaw_of_context {x : Transfer} (h : s.reportLaw) (hx : (s.context n).transfer = some x) : x.countLaw :=
  h.1 n x hx

/-- Words remain to an ARMED context (R93). -/
theorem Transfer.moved_lt_of_armed {x : Transfer} (h : x.countLaw) (harmed : x.phase = .armed) : x.moved < x.count := by
  obtain ⟨hle, hdone, -⟩ := h
  have hne : x.moved ≠ x.count := fun heq => by simpa [harmed] using hdone.1 heq
  omega

/-- A TRANSFER-class entry reports a context that has ended (R102). -/
theorem TransferEnd.phase_not_running (e : TransferEnd) : e.phase ≠ .loading ∧ e.phase ≠ .armed := by
  cases e <;> simp [TransferEnd.phase]

/-- A context that is CLOSED, LOADING or ARMED has no entry queued: an entry reports an ended context that its slot still
holds (R102, R112). -/
theorem State.unreported_of_not_ended (h : s.reportLaw)
    (hx : ∀ x, (s.context n).transfer = some x → x.phase = .loading ∨ x.phase = .armed) : s.unreported n := by
  intro e he
  cases e with
  | seat m change k => rfl
  | transfer m ending tag direction words =>
    refine beq_false_of_ne ?_
    rintro rfl
    obtain ⟨hopen, hreports⟩ := h.2.2 _ he
    obtain ⟨x, hctx⟩ := Option.isSome_iff_exists.1 hopen
    have hphase : x.phase = ending.phase := (hreports x hctx).2.2.2
    exact (hx x hctx).elim (hphase ▸ ending.phase_not_running.1) (hphase ▸ ending.phase_not_running.2)

theorem State.unreported_of_armed {x : Transfer} (h : s.reportLaw) (hx : (s.context n).transfer = some x)
    (harmed : x.phase = .armed) : s.unreported n :=
  State.unreported_of_not_ended h fun y hy => by
    obtain rfl : x = y := Option.some.inj (hx.symm.trans hy)
    exact .inr harmed

/-! ## One lemma for each way in which a context or the event queue changes -/

/-- A context's change leaves the entries of the other slots in agreement with their contexts. -/
theorem State.entryAgrees_setContext_other {e : Event} (he : s.entryAgrees e) (hother : e.isTransferOf n = false)
    (c : Context) : (s.setContext n c).entryAgrees e := by
  cases e with
  | seat m change k => exact he
  | transfer m ending tag direction words =>
    have hne : n ≠ m := (ne_of_beq_false hother).symm
    simpa only [State.entryAgrees, State.context_setContext, if_neg hne] using he

/-- The context of a slot with no entry queued may change in any way that keeps R93. -/
theorem State.reportLaw_setContext {c : Context} (h : s.reportLaw) (hfree : s.unreported n)
    (hc : ∀ x, c.transfer = some x → x.countLaw) : (s.setContext n c).reportLaw := by
  obtain ⟨hcounts, hone, hagree⟩ := h
  refine ⟨fun m x hx => ?_, hone, fun e he => State.entryAgrees_setContext_other (hagree e he) (hfree e he) c⟩
  rw [State.context_setContext] at hx
  split at hx
  · exact hc x hx
  · exact hcounts m x hx

theorem State.reportLaw_setTransfer {x : Transfer} (h : s.reportLaw) (hfree : s.unreported n) (hx : x.countLaw) :
    (s.setTransfer n x).reportLaw :=
  State.reportLaw_setContext h hfree fun _ hy => Option.some.inj hy ▸ hx

/-- Abort pending is no part of what entries report. -/
theorem State.reportLaw_setAbortPending (h : s.reportLaw) (pending : Bool) :
    (s.setContext n { s.context n with abortPending := pending }).reportLaw := by
  have hsame : ∀ m, ((s.setContext n { s.context n with abortPending := pending }).context m).transfer =
      (s.context m).transfer := by
    intro m
    rw [State.context_setContext]
    split
    · next e => rw [e]
    · rfl
  obtain ⟨hcounts, hone, hagree⟩ := h
  refine ⟨fun m x hx => hcounts m x (hsame m ▸ hx), hone, fun e he => ?_⟩
  have hentry := hagree e he
  cases e with
  | seat m change k => exact hentry
  | transfer m ending tag direction words => simpa only [State.entryAgrees, hsame] using hentry

/-- A SEAT-class change is absorbed in its slot's entry, or becomes its one entry (R129 to R131). -/
theorem State.reportLaw_reportSeat (h : s.reportLaw) (n : Slot) (change : SeatChange) :
    (s.reportSeat n change).reportLaw := by
  obtain ⟨hcounts, hone, hagree⟩ := h
  refine ⟨hcounts, fun m => ⟨?seat, ?transfer⟩, fun e he => ?agrees⟩
  case seat =>
    by_cases hm : n = m
    · subst hm
      exact (insertSeat_isSeatOf_self n change s.events (hone n).1).le
    · exact (insertSeat_isSeatOf_other hm change s.events).symm ▸ (hone m).1
  case transfer => exact (insertSeat_isTransferOf n m change s.events).symm ▸ (hone m).2
  case agrees =>
    obtain ⟨k, rfl, hrange⟩ | hold := mem_insertSeat he
    · exact hrange
    · exact hagree e hold

/-- An entry that agrees with its slot's context joins the queue as the slot's one TRANSFER-class entry (R102, R129). -/
theorem State.reportLaw_reportTransfer {ending : TransferEnd} {x : Transfer} {words : Nat} (h : s.reportLaw)
    (hfree : s.unreported n) (hagrees : s.entryAgrees (.transfer n ending x.tag x.direction words)) :
    (s.reportTransfer n ending x words).reportLaw := by
  obtain ⟨hcounts, hone, hagree⟩ := h
  refine ⟨hcounts, fun m => ⟨?seat, ?transfer⟩, fun e he => ?agrees⟩
  case seat => simpa [State.reportTransfer, List.filter_cons, Event.isSeatOf] using (hone m).1
  case transfer =>
    by_cases hm : n = m
    · subst hm
      have hnone : s.events.filter (Event.isTransferOf n) = [] :=
        List.filter_eq_nil_iff.2 fun e he => by simp [hfree e he]
      simp [State.reportTransfer, Event.isTransferOf, hnone]
    · simpa [State.reportTransfer, List.filter_cons, Event.isTransferOf, hm] using (hone m).2
  case agrees =>
    obtain hold | hnew := List.mem_append.1 he
    · exact hagree e hold
    · exact List.mem_singleton.1 hnew ▸ hagrees

/-- A context that ends is reported by the one entry of its slot (R102). -/
theorem State.reportLaw_ended {ending : TransferEnd} {x : Transfer} {phase : Phase} {moved : Nat} (h : s.reportLaw)
    (hfree : s.unreported n) (hphase : phase = ending.phase)
    (hcount : Transfer.countLaw { x with phase := phase, moved := moved }) :
    ((s.setTransfer n { x with phase := phase, moved := moved }).reportTransfer n ending x moved).reportLaw := by
  refine State.reportLaw_reportTransfer (State.reportLaw_setTransfer h hfree hcount) hfree ?_
  refine ⟨by simp, fun y hy => ?_⟩
  obtain rfl : { x with phase := phase, moved := moved } = y := by simpa using hy
  exact ⟨rfl, rfl, rfl, hphase⟩

/-- The head of the event queue may go at any moment (R135). -/
theorem State.reportLaw_dropHead {e : Event} {rest : List Event} (h : s.reportLaw) (hevents : s.events = e :: rest) :
    { s with events := rest }.reportLaw := by
  obtain ⟨hcounts, hone, hagree⟩ := h
  rw [hevents] at hone hagree
  have hsub := List.sublist_cons_self e rest
  exact ⟨hcounts, fun m => ⟨(hsub.filter _).length_le.trans (hone m).1, (hsub.filter _).length_le.trans (hone m).2⟩,
    fun e' he' => hagree e' (List.mem_cons_of_mem e he')⟩

/-! ## At most 16 entries -/

/-- The place of an entry among the 16 that R128 allows: its class and its slot. -/
def Event.place : Event → Bool × Slot
  | .seat n _ _ => (false, n)
  | .transfer n _ _ _ _ => (true, n)

theorem Event.place_beq_seat (e : Event) (n : Slot) : (e.place == (false, n)) = e.isSeatOf n := by
  cases e <;> simp [Event.place, Event.isSeatOf, Bool.beq_eq_decide_eq]

theorem Event.place_beq_transfer (e : Event) (n : Slot) : (e.place == (true, n)) = e.isTransferOf n := by
  cases e <;> simp [Event.place, Event.isTransferOf, Bool.beq_eq_decide_eq]

/-- One entry of each class at most for each slot is 16 entries at most (R128). -/
theorem State.events_length_le (h : s.reportLaw) : s.events.length ≤ 16 := by
  have hplaces : (s.events.map Event.place).Nodup := by
    refine List.nodup_iff_count_le_one.2 fun p => ?_
    rw [List.count, List.countP_map, List.countP_eq_length_filter]
    obtain ⟨_ | _, n⟩ := p
    · simpa only [Function.comp_def, Event.place_beq_seat] using (h.2.1 n).1
    · simpa only [Function.comp_def, Event.place_beq_transfer] using (h.2.1 n).2
  simpa using hplaces.length_le_card

/-! ## Transfer engine and seat monitor -/

theorem State.reportLaw_halt (h : s.reportLaw) (n : Slot) (r : HaltReason) : (s.halt n r).reportLaw := by
  unfold State.halt
  split
  · next x hx =>
    split
    · next harmed =>
      have hcount := State.countLaw_of_context h hx
      have hlt := Transfer.moved_lt_of_armed hcount harmed
      exact State.reportLaw_ended h (State.unreported_of_armed h hx harmed) rfl
        ⟨hlt.le, iff_of_false hlt.ne nofun, nofun⟩
    · exact h
  · exact h

theorem State.reportLaw_settleAbort (h : s.reportLaw) (n : Slot) : (s.settleAbort n).reportLaw := by
  have hcleared := State.reportLaw_setAbortPending (n := n) h false
  simp only [State.settleAbort]
  split
  · split
    · exact hcleared
    · exact hcleared
    · exact State.reportLaw_halt hcleared n .aborted
    · exact hcleared
  · exact h

/-- A word counted in an ARMED context: the last takes it to DONE with its entry, any other leaves it ARMED (R99, R100). -/
theorem State.reportLaw_countWord {x : Transfer} (h : s.reportLaw) (hx : (s.context n).transfer = some x)
    (harmed : x.phase = .armed) :
    (if x.moved + 1 = x.count then
      ((s.setTransfer n { x with moved := x.moved + 1, phase := .done }).reportTransfer n .done x x.count).clearErrors n
    else s.setTransfer n { x with moved := x.moved + 1 }).reportLaw := by
  have hlt := Transfer.moved_lt_of_armed (State.countLaw_of_context h hx) harmed
  have hfree := State.unreported_of_armed h hx harmed
  split
  · next hlast =>
    rw [hlast]
    exact State.reportLaw_ended h hfree rfl ⟨le_rfl, by simp, by simp⟩
  · next hmore => exact State.reportLaw_setTransfer h hfree ⟨hlt, by simp [hmore, harmed], by simp [harmed]⟩

theorem State.reportLaw_storeReceived (h : s.reportLaw) (x : Transfer) (data : Word) :
    (s.storeReceived x data).reportLaw := by
  unfold State.storeReceived
  split <;> exact h

theorem State.storeReceived_context (s : State) (x : Transfer) (data : Word) (n : Slot) :
    (s.storeReceived x data).context n = s.context n := by
  unfold State.storeReceived
  split <;> rfl

theorem State.reportLaw_moveWord (h : s.reportLaw) (n : Slot) (d : Direction) (data : Word) :
    (s.moveWord n d data).reportLaw := by
  unfold State.moveWord
  split
  · next x hx =>
    split
    · next harmed =>
      cases d with
      | input =>
        have hcontext := s.storeReceived_context x data n
        exact State.reportLaw_countWord (State.reportLaw_storeReceived h x data) (hcontext ▸ hx) harmed
      | output => exact State.reportLaw_countWord h hx harmed
    · exact h
  · exact h

theorem State.reportLaw_countError (h : s.reportLaw) (n : Slot) (e : LastError) : (s.countError n e).reportLaw := by
  unfold State.countError
  split <;> exact h

theorem State.reportLaw_judge (h : s.reportLaw) (n : Slot) (k : Option ErrorKind) : (s.judge n k).reportLaw := by
  unfold State.judge
  split
  · exact State.reportLaw_reportSeat (State.reportLaw_halt (by exact h) n .fenced) n _
  · exact h

/-! ## Arbiter and sequencer -/

theorem State.reportLaw_choose (h : s.reportLaw) : s.choose.reportLaw := by
  unfold State.choose
  split
  · split
    · rw [State.start_frame]
      exact h
    · exact h
  · exact h

theorem reportLaw_react (before : State) {after : State} (h : after.reportLaw) : (react before after).reportLaw := by
  rw [react_frame]
  exact h

theorem State.reportLaw_operationEnd (h : s.reportLaw) (k : OperationKind) (n : Slot) :
    (s.operationEnd k n).reportLaw := by
  rw [State.operationEnd_frame]
  exact h

theorem State.reportLaw_cut (h : s.reportLaw) : s.cut.reportLaw := by
  rw [State.cut_frame]
  exact h

theorem State.reportLaw_identifyOutcome (h : s.reportLaw) (n : Slot) (c : IdentifyOutcome) :
    (s.identifyOutcome n c).reportLaw := by
  unfold State.identifyOutcome
  split
  · cases c with
    | good w0 w1 =>
      simp only []
      split <;> exact State.reportLaw_reportSeat (by exact h) n _
    | error k i => exact State.reportLaw_reportSeat (by exact h) n _
  · exact h

theorem State.reportLaw_endIdentify (h : s.reportLaw) (o : Operation) (c : IdentifyOutcome) :
    (s.endIdentify o c).reportLaw :=
  State.reportLaw_operationEnd (State.reportLaw_identifyOutcome (by exact h) _ _) _ _

theorem State.reportLaw_endAcknowledge (h : s.reportLaw) (o : Operation) (c : AcknowledgeOutcome) :
    (s.endAcknowledge o c).reportLaw := by
  refine State.reportLaw_operationEnd ?_ _ _
  cases c with
  | vector w => exact h
  | withdrawn => exact h
  | error k => exact State.reportLaw_judge (State.reportLaw_countError (by exact h) _ _) _ _

theorem State.reportLaw_endBurst (h : s.reportLaw) (o : Operation) (c : EndCause) : (s.endBurst o c).reportLaw := by
  refine State.reportLaw_operationEnd (State.reportLaw_settleAbort ?_ _) _ _
  cases c with
  | sizeReached => exact State.reportLaw_judge (by exact h) _ _
  | cardStop => exact State.reportLaw_judge (by exact h) _ _
  | error k i => exact State.reportLaw_judge (State.reportLaw_countError (by exact h) _ _) _ _
  | boundary => exact State.reportLaw_judge (by exact h) _ _

theorem State.reportLaw_requestBoundary (h : s.reportLaw) (n : Slot) : (s.requestBoundary n).reportLaw := by
  unfold State.requestBoundary
  split
  · split
    · split
      · exact State.reportLaw_endBurst h _ _
      · exact h
      · exact h
      · exact h
    · exact h
  · exact h

theorem State.reportLaw_timeout (h : s.reportLaw) (o : Operation) : (s.timeout o).reportLaw := by
  unfold State.timeout
  split
  · exact State.reportLaw_endIdentify h _ _
  · exact State.reportLaw_endAcknowledge h _ _
  · exact State.reportLaw_endBurst h _ _

theorem State.reportLaw_endIdentifyWord (h : s.reportLaw) (o : Operation) (first : Option Word) (a : Answer) :
    (s.endIdentifyWord o first a).reportLaw := by
  unfold State.endIdentifyWord
  split
  · split
    · split
      · exact h
      · exact State.reportLaw_endIdentify h _ _
    · exact State.reportLaw_endIdentify h _ _
  · exact State.reportLaw_endIdentify h _ _
  · exact State.reportLaw_endIdentify h _ _

theorem State.reportLaw_endAcknowledgeWord (h : s.reportLaw) (o : Operation) (a : Answer) :
    (s.endAcknowledgeWord o a).reportLaw := by
  unfold State.endAcknowledgeWord
  split
  · split <;> exact State.reportLaw_endAcknowledge h _ _
  · exact State.reportLaw_endAcknowledge h _ _
  · exact State.reportLaw_endAcknowledge h _ _

theorem State.reportLaw_afterWord (h : s.reportLaw) (o : Operation) (b : Burst) : (s.afterWord o b).reportLaw := by
  unfold State.afterWord
  split
  · exact State.reportLaw_endBurst h _ _
  · split
    · exact State.reportLaw_endBurst h _ _
    · exact h

theorem State.reportLaw_endBurstWord (h : s.reportLaw) (o : Operation) (b : Burst) (a : Answer) :
    (s.endBurstWord o b a).reportLaw := by
  unfold State.endBurstWord
  split
  · split
    · exact State.reportLaw_afterWord h _ _
    · exact State.reportLaw_endBurst h _ _
  · exact State.reportLaw_endBurst h _ _
  · exact State.reportLaw_endBurst h _ _

theorem State.reportLaw_finishWord (h : s.reportLaw) : s.finishWord.reportLaw := by
  unfold State.finishWord
  split
  · split
    · unfold State.endWord
      split
      · exact State.reportLaw_endIdentifyWord h _ _ _
      · exact State.reportLaw_endAcknowledgeWord h _ _
      · exact State.reportLaw_endBurstWord h _ _ _
    · exact h
  · exact h

theorem State.reportLaw_takeReply (h : s.reportLaw) (o : Operation) (a : Answer) : (s.takeReply o a).reportLaw := by
  unfold State.takeReply
  split
  · exact h
  · exact h
  · split
    · exact State.reportLaw_moveWord h _ _ _
    · exact h

/-! ## Seating and the resets -/

/-- What each step of a pass over some slots keeps, the pass keeps. -/
theorem State.reportLaw_foldl {f : State → Slot → State} (hf : ∀ s n, State.reportLaw s → (f s n).reportLaw)
    (l : List Slot) (h : s.reportLaw) : (l.foldl f s).reportLaw := by
  induction l generalizing s with
  | nil => exact h
  | cons n l ih => exact ih (hf s n h)

theorem State.reportLaw_seatActive (h : s.reportLaw) (n : Slot) : (s.seatActive n).reportLaw := by
  simp only [State.seatActive]
  split <;> exact h

theorem State.reportLaw_cutSlot (h : s.reportLaw) (n : Slot) : (s.cutSlot n).reportLaw := by
  unfold State.cutSlot
  split
  · split
    · exact State.reportLaw_cut (State.reportLaw_finishWord h)
    · exact h
  · exact h

theorem State.reportLaw_remove (h : s.reportLaw) (n : Slot) : (s.remove n).reportLaw := by
  have hcut := State.reportLaw_cutSlot h n
  exact State.reportLaw_settleAbort
    (State.reportLaw_halt (State.reportLaw_reportSeat (by exact hcut) n .unseated) n .unseated) n

theorem State.reportLaw_seatInactive (h : s.reportLaw) (n : Slot) : (s.seatInactive n).reportLaw := by
  have hremoved : (react s ({ s with lines := s.lines.unseat n }.remove n)).reportLaw :=
    reportLaw_react s (State.reportLaw_remove (by exact h) n)
  simp only [State.seatInactive]
  split
  · split
    · exact h
    · exact h
    · exact hremoved
    · exact hremoved
    · exact hremoved
    · exact hremoved
    · exact hremoved
  · exact h

theorem State.reportLaw_expire (h : s.reportLaw) (n : Slot) : (s.expire n).reportLaw := reportLaw_react s (by exact h)

theorem State.reportLaw_settleExpiry (h : s.reportLaw) (n : Slot) : (s.settleExpiry n).reportLaw := by
  unfold State.settleExpiry
  split
  · exact State.reportLaw_expire (by exact h) n
  · exact h

theorem State.reportLaw_microsecond (h : s.reportLaw) : s.microsecond.reportLaw :=
  State.reportLaw_foldl (fun _ n hs => State.reportLaw_expire hs n) _ (by exact h)

theorem State.reportLaw_idle (h : s.reportLaw) : s.idle.reportLaw := by
  unfold State.idle
  split
  · split
    · exact State.reportLaw_microsecond h
    · exact State.reportLaw_microsecond h
    · exact h
    · exact reportLaw_react s (State.reportLaw_finishWord h)
  · exact State.reportLaw_microsecond h

theorem State.reportLaw_applyThresholds (h : s.reportLaw) : s.applyThresholds.reportLaw := by
  refine State.reportLaw_foldl (fun u n hu => ?_) _ h
  unfold State.applyThreshold
  split
  · split
    · exact State.reportLaw_requestBoundary hu n
    · exact State.reportLaw_judge hu n none
  · exact hu

theorem State.reportLaw_haltAll (h : s.reportLaw) : s.haltAll.reportLaw :=
  State.reportLaw_foldl (fun _ n hs => State.reportLaw_halt hs n .busReset) _ h

theorem State.reportLaw_busReset (h : s.reportLaw) : s.busReset.reportLaw := by
  have blocks : ∀ u : State, u.reportLaw → State.reportLaw { u with
      clear := true, slots := Vector.ofFn fun n : Slot => (u.slot n).busReset
      arb := { u.arb with origin := 0, turn := .attention }, attention := [], inService := Vector.replicate 8 false } :=
    fun _ hu => hu
  exact blocks _ (State.reportLaw_haltAll (State.reportLaw_cut (State.reportLaw_finishWord h)))

/-- Every context is CLOSED and no entry is queued at pin reset (R92, R155). -/
theorem State.reportLaw_pinReset (s : State) : s.pinReset.reportLaw := by
  have hclosed : ∀ n, (State.reset.context n).transfer = none := by decide
  refine ⟨fun n x hx => ?_, fun _ => ⟨Nat.zero_le 1, Nat.zero_le 1⟩, fun e he => nomatch he⟩
  cases (hclosed n).symm.trans hx

theorem State.reportLaw_release (h : s.reportLaw) : s.release.reportLaw := by
  unfold State.release
  split <;> exact h

theorem State.reportLaw_endStarting (h : s.reportLaw) : s.endStarting.reportLaw := by
  unfold State.endStarting
  split
  · refine State.reportLaw_choose (State.reportLaw_foldl (fun u n hu => ?_) _ (by exact h))
    split <;> exact hu
  · exact h

theorem State.reportLaw_endClear (h : s.reportLaw) : s.endClear.reportLaw := by
  unfold State.endClear
  split
  · refine reportLaw_react s ?_
    split
    · split <;> exact h
    · exact h
  · exact h

/-! ## The host's commands -/

theorem State.reportLaw_execute (h : s.reportLaw) : s.execute.reportLaw := h

theorem State.reportLaw_runSetMode (h : s.reportLaw) : s.runSetMode.reportLaw := by
  simp only [State.runSetMode]
  split
  · exact reportLaw_react s (by exact h)
  · exact h

theorem State.reportLaw_runSetOrder (h : s.reportLaw) : s.runSetOrder.reportLaw := by
  simp only [State.runSetOrder]
  split <;> exact h

theorem State.reportLaw_runHold (h : s.reportLaw) : s.runHold.reportLaw := by
  unfold State.runHold
  split
  · split <;> exact h
  · exact h
  · exact h

theorem State.reportLaw_runResume (h : s.reportLaw) : s.runResume.reportLaw := by
  unfold State.runResume
  split
  · exact State.reportLaw_choose (by exact h)
  · exact h
  · exact h

theorem State.reportLaw_runReidentify (h : s.reportLaw) : s.runReidentify.reportLaw := by
  simp only [State.runReidentify]
  split
  · exact reportLaw_react s (by exact h)
  · exact h

theorem State.reportLaw_runUnfence (h : s.reportLaw) : s.runUnfence.reportLaw := by
  simp only [State.runUnfence]
  split
  · exact reportLaw_react s (by exact h)
  · exact h

theorem State.reportLaw_runTakeAttention (h : s.reportLaw) : s.runTakeAttention.reportLaw := by
  simp only [State.runTakeAttention]
  split
  · exact h
  · split
    · exact reportLaw_react s (by exact h)
    · exact h

theorem State.reportLaw_runRetire (h : s.reportLaw) : s.runRetire.reportLaw := by
  simp only [State.runRetire]
  split
  · exact reportLaw_react s (by exact h)
  · exact h

/-- OPEN takes a count of at least 1, so that the LOADING context is short of it (R93, R94). -/
theorem State.reportLaw_runOpen (h : s.reportLaw) : s.runOpen.reportLaw := by
  simp only [State.runOpen]
  split
  · exact h
  · next hclosed =>
    split
    · exact h
    · next hcount =>
      split
      · exact h
      · split
        · exact h
        · have hfree : s.unreported (operandSlot s.cmd.opa) :=
            State.unreported_of_not_ended h fun x hx => by simp [hclosed] at hx
          refine State.reportLaw_setContext (by exact h) hfree ?_
          rintro x ⟨⟩
          exact ⟨Nat.zero_le _, iff_of_false (fun hzero => hcount (.inl hzero.symm)) nofun, fun _ => rfl⟩

/-- ARM finds a LOADING context, which has moved nothing of its count (R93, R96). -/
theorem State.reportLaw_runArm (h : s.reportLaw) : s.runArm.reportLaw := by
  simp only [State.runArm]
  split
  · next x hx =>
    split
    · next hloading =>
      split
      · obtain ⟨hle, hdone, -⟩ := State.countLaw_of_context h hx
        have hfree : s.unreported (operandSlot s.cmd.opa) := State.unreported_of_not_ended h fun y hy => by
          obtain rfl : x = y := Option.some.inj (hx.symm.trans hy)
          exact .inl hloading
        have hshort : x.moved ≠ x.count := fun heq => by simpa [hloading] using hdone.1 heq
        have harmed := State.reportLaw_setTransfer (x := { x with phase := .armed }) h hfree
          ⟨hle, iff_of_false hshort nofun, nofun⟩
        exact reportLaw_react s (by exact harmed)
      · exact h
    · exact h
  · exact h

theorem State.reportLaw_runAbort (h : s.reportLaw) : s.runAbort.reportLaw := by
  simp only [State.runAbort]
  split
  · split
    · split
      · refine reportLaw_react s (State.reportLaw_requestBoundary ?_ _)
        exact State.reportLaw_setAbortPending (s := s) h true
      · exact reportLaw_react s (by exact State.reportLaw_halt h _ .aborted)
    · exact h
  · exact h

/-- CLOSE finds a LOADING context, or one whose entry is no longer queued (R111, R112). -/
theorem State.reportLaw_runClose (h : s.reportLaw) : s.runClose.reportLaw := by
  have closes : ∀ x, s.unreported (operandSlot s.cmd.opa) →
      ((s.closeContext (operandSlot s.cmd.opa) x).complete .ok 0).reportLaw := fun x hfree =>
    State.reportLaw_setContext (s := { s with freePages := s.freePages ++ x.pages }) (by exact h) hfree nofun
  simp only [State.runClose]
  split
  · next x hx =>
    split
    · exact h
    · next hloading =>
      refine closes x (State.unreported_of_not_ended h fun y hy => ?_)
      obtain rfl : x = y := Option.some.inj (hx.symm.trans hy)
      exact .inl hloading
    · split
      · exact h
      · next hqueue => exact closes x (State.unreported_iff_any.2 hqueue)
    · split
      · exact h
      · next hqueue => exact closes x (State.unreported_iff_any.2 hqueue)
  · exact h

theorem State.reportLaw_runNextEvent (h : s.reportLaw) : s.runNextEvent.reportLaw := by
  unfold State.runNextEvent
  split
  · exact h
  · next e rest hevents =>
    split
    · have htail := State.reportLaw_dropHead h hevents
      exact htail
    · exact h

theorem State.reportLaw_runCommand (h : s.reportLaw) (c : Command) : (s.runCommand c).reportLaw := by
  cases c with
  | setMode => exact State.reportLaw_runSetMode h
  | setOrder => exact State.reportLaw_runSetOrder h
  | hold => exact State.reportLaw_runHold h
  | resume => exact State.reportLaw_runResume h
  | reidentify => exact State.reportLaw_runReidentify h
  | unfence => exact State.reportLaw_runUnfence h
  | takeAttention => exact State.reportLaw_runTakeAttention h
  | retire => exact State.reportLaw_runRetire h
  | openContext => exact State.reportLaw_runOpen h
  | arm => exact State.reportLaw_runArm h
  | abort => exact State.reportLaw_runAbort h
  | close => exact State.reportLaw_runClose h
  | nextEvent => exact State.reportLaw_runNextEvent h
  | busReset => exact State.reportLaw_execute (State.reportLaw_busReset h)

theorem State.reportLaw_writeCommand (h : s.reportLaw) (w : Word) : (s.writeCommand w).reportLaw := by
  unfold State.writeCommand
  split
  · exact h
  · split
    · exact h
    · split
      · exact State.reportLaw_runCommand (by exact h) _
      · exact h

/-! ## The host's accesses and the replies -/

theorem State.reportLaw_writeControl (h : s.reportLaw) (w : Word) : (s.writeControl w).reportLaw := by
  unfold State.writeControl
  split
  · exact reportLaw_react s (State.reportLaw_applyThresholds (by exact h))
  · exact h

theorem State.reportLaw_writeTiming (h : s.reportLaw) (w : Word) : (s.writeTiming w).reportLaw := by
  unfold State.writeTiming
  split <;> exact h

theorem State.reportLaw_writeStatus (h : s.reportLaw) (w : Word) : (s.writeStatus w).reportLaw := by
  unfold State.writeStatus
  split <;> exact h

theorem State.reportLaw_writePointer (h : s.reportLaw) (w : Word) : (s.writePointer w).reportLaw := by
  unfold State.writePointer
  split <;> exact h

theorem State.reportLaw_writeSlotSelect (h : s.reportLaw) (w : Word) : (s.writeSlotSelect w).reportLaw := by
  unfold State.writeSlotSelect
  split <;> exact h

theorem State.reportLaw_writeOpa (h : s.reportLaw) (w : Word) : (s.writeOpa w).reportLaw := by
  unfold State.writeOpa
  split <;> exact h

theorem State.reportLaw_writeOpb (h : s.reportLaw) (w : Word) : (s.writeOpb w).reportLaw := by
  unfold State.writeOpb
  split <;> exact h

theorem State.reportLaw_writeStoreData (h : s.reportLaw) (w : Word) : (s.writeStoreData w).reportLaw := by
  unfold State.writeStoreData
  split
  · split <;> exact h
  · exact h

theorem State.reportLaw_readStoreData (h : s.reportLaw) : s.readStoreData.reportLaw := by
  unfold State.readStoreData
  split
  · split <;> exact h
  · exact h

theorem State.reportLaw_hostWrite (h : s.reportLaw) (address : BitVec 5) (w : Word) :
    (s.hostWrite address w).reportLaw := by
  unfold State.hostWrite
  split
  · exact State.reportLaw_writeStatus h w
  · exact State.reportLaw_writeControl h w
  · exact State.reportLaw_writeTiming h w
  · exact State.reportLaw_writeCommand h w
  · exact State.reportLaw_writeOpa h w
  · exact State.reportLaw_writeOpb h w
  · exact State.reportLaw_writePointer h w
  · exact State.reportLaw_writeStoreData h w
  · exact State.reportLaw_writeSlotSelect h w
  · exact h

/-! ## Every command and every step -/

/-- Where the part goes on, it goes on to a state that meets the reports' law. -/
def leavesReportLaw (o : Host.Outcome State Fault Refusal) : Prop := ∀ t, o = .next t → t.reportLaw

theorem leavesReportLaw_next {t : State} (h : t.reportLaw) : leavesReportLaw (.next t) := by
  rintro u ⟨⟩
  exact h

theorem execReplyRelease_leavesReportLaw (h : s.reportLaw) : leavesReportLaw (execReplyRelease s) := by
  have hfinished := reportLaw_react s (State.reportLaw_finishWord h)
  refine leavesReportLaw_next ?_
  split <;> exact hfinished

theorem execReplyTaken_leavesReportLaw (h : s.reportLaw) (lines : BitVec 2) (data : Word) (parity : BitVec 2) :
    leavesReportLaw (execReplyTaken lines data parity s) := by
  refine leavesReportLaw_next ?_
  split
  · next o r _ _ =>
    have htaken := State.reportLaw_takeReply h o ⟨r, data, parityGood data parity⟩
    split
    · simp only []
      split
      · exact htaken
      · exact reportLaw_react s (State.reportLaw_finishWord htaken)
    · exact h
  · exact h

theorem execResponseWindowExpiry_leavesReportLaw (h : s.reportLaw) : leavesReportLaw (execResponseWindowExpiry s) := by
  refine leavesReportLaw_next ?_
  split
  · split
    · exact h
    · exact h
    · exact reportLaw_react s (State.reportLaw_timeout h _)
    · exact reportLaw_react s (State.reportLaw_timeout h _)
  · exact h

theorem exec_leavesReportLaw (h : s.reportLaw) (i : Instr) : leavesReportLaw (exec i s) := by
  have hcommand : ∀ w, leavesReportLaw (.next (s.writeCommand w)) := fun w =>
    leavesReportLaw_next (State.reportLaw_writeCommand h w)
  cases i with
  | pinReset => exact leavesReportLaw_next s.reportLaw_pinReset
  | rstinRelease => exact leavesReportLaw_next (State.reportLaw_release h)
  | startingEnd => exact leavesReportLaw_next (State.reportLaw_endStarting h)
  | seatActive n => exact leavesReportLaw_next (State.reportLaw_seatActive h n)
  | seatInactiveSettling n => exact leavesReportLaw_next (State.reportLaw_seatInactive h n)
  | removal n => exact leavesReportLaw_next (State.reportLaw_seatInactive h n)
  | settleTimerExpiry n => exact leavesReportLaw_next (State.reportLaw_settleExpiry h n)
  | areqActive n active => exact leavesReportLaw_next (reportLaw_react s (by exact h))
  | treqActive n active => exact leavesReportLaw_next (reportLaw_react s (by exact h))
  | replyRelease => exact execReplyRelease_leavesReportLaw h
  | replyTaken lines data parity => exact execReplyTaken_leavesReportLaw h lines data parity
  | responseWindowExpiry => exact execResponseWindowExpiry_leavesReportLaw h
  | clearEnd => exact leavesReportLaw_next (State.reportLaw_endClear h)
  | controlWrite w => exact leavesReportLaw_next (State.reportLaw_writeControl h w)
  | timingWrite w => exact leavesReportLaw_next (State.reportLaw_writeTiming h w)
  | statusWrite w => exact leavesReportLaw_next (State.reportLaw_writeStatus h w)
  | storePointerWrite w => exact leavesReportLaw_next (State.reportLaw_writePointer h w)
  | storeDataRead => exact leavesReportLaw_next (State.reportLaw_readStoreData h)
  | storeDataWrite w => exact leavesReportLaw_next (State.reportLaw_writeStoreData h w)
  | slotSelectWrite w => exact leavesReportLaw_next (State.reportLaw_writeSlotSelect h w)
  | registerWrite address w => exact leavesReportLaw_next (State.reportLaw_hostWrite h address w)
  | unknownCommand w => exact hcommand w
  | setMode => exact hcommand _
  | reidentify => exact hcommand _
  | setOrder => exact hcommand _
  | hold => exact hcommand _
  | resume => exact hcommand _
  | takeAttention => exact hcommand _
  | retire => exact hcommand _
  | openContext => exact hcommand _
  | arm => exact hcommand _
  | abort => exact hcommand _
  | close => exact hcommand _
  | unfence => exact hcommand _
  | nextEvent => exact hcommand _
  | busReset => exact hcommand _

theorem step_leavesReportLaw (h : s.reportLaw) : leavesReportLaw (step s) := by
  unfold step
  split
  · exact exec_leavesReportLaw (by exact h) _
  · exact leavesReportLaw_next (State.reportLaw_idle h)

end

/-- Settles O8: a step changes a context that is CLOSED, LOADING or ARMED, whose slot has no entry queued, or closes one
whose entry has gone, so that the entries that stand go on to agree with their contexts. -/
theorem stepKeepsContextsAndReports : Obligations.StepKeepsContextsAndReports := by
  intro s t h hstep
  have ht : t.reportLaw := step_leavesReportLaw h t hstep
  exact ⟨ht, State.events_length_le ht⟩

/-! ## NEXT EVENT -/

/-- The changes field of NEXT EVENT by the operand's number (R157). -/
theorem operandChanges_eq (w : Word) : operandChanges w = w.toNat / 256 % 16 := toNat_field w 8 4

/-- NEXT EVENT of an empty queue (R135). -/
theorem State.runNextEvent_of_nil {s : State} (h : s.events = []) : s.runNextEvent = s.complete .wrongState 0 := by
  simp [State.runNextEvent, h]

/-- NEXT EVENT that names the head's slot and changes count (R135). -/
theorem State.runNextEvent_of_named {s : State} {e : Event} {rest : List Event} (h : s.events = e :: rest)
    (hnamed : e.slot = s.named ∧ e.changes = s.cmd.opa.toNat / 256 % 16) :
    s.runNextEvent = { s with events := rest }.complete .ok 0 := by
  simp only [State.runNextEvent, h, State.operandSlot_opa, operandChanges_eq, if_pos hnamed]

/-- NEXT EVENT that names another entry than the head (R135). -/
theorem State.runNextEvent_of_other {s : State} {e : Event} {rest : List Event} (h : s.events = e :: rest)
    (hother : ¬(e.slot = s.named ∧ e.changes = s.cmd.opa.toNat / 256 % 16)) :
    s.runNextEvent = s.complete .stale 0 := by
  simp only [State.runNextEvent, h, State.operandSlot_opa, operandChanges_eq, if_neg hother]

/-- Settles O56, by the head of the event queue. -/
theorem nextEventRemovesTheHeadNamed : Obligations.NextEventRemovesTheHeadNamed := by
  intro s h changes removed stale
  have hexec : exec .nextEvent s = .next (s.takeWord Command.nextEvent.code).runNextEvent :=
    congrArg Host.Outcome.next (State.writeCommand_code h .nextEvent)
  have hhead : ∀ e rest, s.events = e :: rest →
      exec .nextEvent s = .next (if e.slot = s.named ∧ e.changes = changes then removed rest else stale) := by
    intro e rest hevents
    rw [hexec]
    split
    · next hnamed => rw [State.runNextEvent_of_named (by exact hevents) (by exact hnamed)]; rfl
    · next hother => rw [State.runNextEvent_of_other (by exact hevents) (by exact hother)]; rfl
  refine ⟨fun hnil => ?empty, fun m c k rest hevents => ?seat, fun m e tag d w rest hevents => ?transfer⟩
  case empty => rw [hexec, State.runNextEvent_of_nil (by exact hnil)]; rfl
  case seat => exact hhead _ rest hevents
  case transfer =>
    rw [hhead _ rest hevents]
    simp only [Event.slot, Event.changes, eq_comm (a := 0)]

end Sys2Proof.Machine
end

section
/-! SUPPORT. The arbiter's scans and choice, the events at which a choice is made, and the start and the end of an
operation (R24, R43, R48 to R53, R56). -/

namespace Sys2Proof.Machine

/-! ## Scans -/

/-- A chain order list that names no slot twice names every slot (R43). -/
theorem State.mem_order {s : State} (h : s.arb.order.toList.Nodup) (n : Slot) : n ∈ s.arb.order.toList := by
  have hall : s.arb.order.toList.toFinset = Finset.univ := by
    rw [← Finset.card_eq_iff_eq_univ, List.toFinset_card_of_nodup h]
    simp
  exact List.mem_toFinset.1 (hall ▸ Finset.mem_univ n)

/-- The scan order from a position is the chain order list turned to start there (R48). -/
theorem State.scanOrder_eq_rotate (s : State) (start : Position) :
    s.scanOrder start = s.arb.order.toList.rotate start.val :=
  (List.rotate_eq_drop_append_take (by simp)).symm

theorem State.mem_scanOrder {s : State} (h : s.arb.order.toList.Nodup) (start : Position) (n : Slot) :
    n ∈ s.scanOrder start := by
  rw [State.scanOrder_eq_rotate, List.mem_rotate]
  exact State.mem_order h n

/-- What is found first in a list that names every slot once is the first claim by the places of that list (R48). -/
theorem find?_eq_some_iff_firstClaim {l : List Slot} (hmem : ∀ n, n ∈ l) (hnodup : l.Nodup) (claim : Slot → Bool)
    (n : Slot) : l.find? claim = some n ↔ firstClaim claim (fun m => l.idxOf m) n := by
  rw [List.find?_eq_some_iff_getElem]
  refine and_congr_right fun _ => ⟨?_, fun hfirst => ?_⟩
  · rintro ⟨i, hi, rfl, hbefore⟩ m hm
    have hplace := List.getElem_idxOf (List.idxOf_lt_length_iff.2 (hmem m))
    dsimp only
    rw [hnodup.idxOf_getElem]
    by_contra hlt
    simpa [hplace, hm] using hbefore (l.idxOf m) (not_le.1 hlt)
  · refine ⟨l.idxOf n, List.idxOf_lt_length_iff.2 (hmem n), List.getElem_idxOf _, fun j hj => ?_⟩
    have hlt : j < l.length := hj.trans (List.idxOf_lt_length_iff.2 (hmem n))
    rw [Bool.not_eq_true', ← Bool.not_eq_true]
    intro hclaim
    have hle : l.idxOf n ≤ l.idxOf l[j] := hfirst l[j] hclaim
    rw [hnodup.idxOf_getElem] at hle
    exact absurd hj (not_lt.2 hle)

/-- A slot's place in a scan from a position is its place in the chain order list, counted from there (R48). -/
theorem State.idxOf_scanOrder {s : State} (h : s.arb.order.toList.Nodup) (start : Position) (n : Slot) :
    (s.scanOrder start).idxOf n = (s.position n + 8 - start.val) % 8 := by
  have hlt : s.position n < s.arb.order.toList.length := List.idxOf_lt_length_iff.2 (State.mem_order h n)
  have hlen : s.arb.order.toList.length = 8 := by simp
  have hstart := start.isLt
  have hplace : s.arb.order.toList[s.position n] = n := List.getElem_idxOf hlt
  rw [State.scanOrder_eq_rotate]
  have hk : (s.position n + 8 - start.val) % 8 < (s.arb.order.toList.rotate start.val).length := by
    rw [List.length_rotate, hlen]
    omega
  have hrot : (s.arb.order.toList.rotate start.val)[(s.position n + 8 - start.val) % 8] = n := by
    rw [List.getElem_rotate]
    have hindex : ((s.position n + 8 - start.val) % 8 + start.val) % s.arb.order.toList.length = s.position n := by
      rw [hlen] at hlt ⊢
      omega
    simp only [hindex, hplace]
  conv_lhs => rw [← hrot]
  exact (List.nodup_rotate.2 h).idxOf_getElem _ hk

/-- A scan finds nothing exactly where no slot holds the claim (R48). -/
theorem State.scan_eq_none_iff {s : State} (h : s.arb.order.toList.Nodup) (start : Position) (claim : Slot → Bool) :
    s.scan start claim = none ↔ ∀ n, claim n = false := by
  rw [State.scan, List.find?_eq_none]
  simp [State.mem_scanOrder h]

/-- A scan finds the first slot that holds the claim, counted from where it starts (R48). -/
theorem State.scan_eq_some_iff {s : State} (h : s.arb.order.toList.Nodup) (start : Position) (claim : Slot → Bool)
    (n : Slot) :
    s.scan start claim = some n ↔ firstClaim claim (fun m => (s.position m + 8 - start.val) % 8) n := by
  have hnodup : (s.scanOrder start).Nodup := by
    rw [State.scanOrder_eq_rotate]
    exact List.nodup_rotate.2 h
  rw [State.scan, find?_eq_some_iff_firstClaim (State.mem_scanOrder h start) hnodup]
  simp only [State.idxOf_scanOrder h]

/-- A scan from the head goes by position (R48). -/
theorem State.scan_zero_eq_some_iff {s : State} (h : s.arb.order.toList.Nodup) (claim : Slot → Bool) (n : Slot) :
    s.scan 0 claim = some n ↔ firstClaim claim s.position n := by
  have hdistance : (fun m => (s.position m + 8 - (0 : Position).val) % 8) = s.position := by
    funext m
    have hlt : s.position m < 8 := by
      simpa [State.position] using List.idxOf_lt_length_iff.2 (State.mem_order h m)
    simp [Nat.mod_eq_of_lt hlt]
  rw [State.scan_eq_some_iff h, hdistance]

/-- The transfer scan goes by how far into it a slot stands (R48). -/
theorem State.scan_transferStart_eq_some_iff {s : State} (h : s.arb.order.toList.Nodup) (claim : Slot → Bool)
    (n : Slot) : s.scan s.transferStart claim = some n ↔ firstClaim claim s.transferDistance n := by
  unfold State.transferStart State.transferDistance
  cases s.control.discipline with
  | fixed => exact State.scan_zero_eq_some_iff h claim n
  | rotating => exact State.scan_eq_some_iff h _ claim n

/-! ## The choice -/

theorem State.claims_eq_false_iff (s : State) (n : Slot) :
    s.claims n = false ↔
      s.identifyCandidate n = false ∧ s.attentionEligible n = false ∧ s.transferEligible n = false := by
  simp [State.claims, and_assoc]

/-- Settles O15: each claim's first holder is what its scan finds, and the choice goes by what the three scans find. -/
theorem choiceFollowsScanAndTurn : Obligations.ChoiceFollowsScanAndTurn := by
  intro s h
  simp only [State.claims_eq_false_iff, forall_and, ← State.scan_zero_eq_some_iff h,
    ← State.scan_transferStart_eq_some_iff h, ← State.scan_eq_none_iff h 0 s.identifyCandidate,
    ← State.scan_eq_none_iff h 0 s.attentionEligible, ← State.scan_eq_none_iff h s.transferStart s.transferEligible]
  unfold State.choice
  rcases s.scan 0 s.identifyCandidate with _ | i
  · rcases s.scan 0 s.attentionEligible with _ | a <;> rcases s.scan s.transferStart s.transferEligible with _ | t
    · simp
    · simp
    · simp
    · cases s.arb.turn <;> simp
  · simp

/-- Where no slot holds a claim there is no choice, and only there (R51). -/
theorem State.choice_eq_none_iff {s : State} (h : s.arb.order.toList.Nodup) :
    s.choice = none ↔ ∀ n, s.claims n = false :=
  (choiceFollowsScanAndTurn s h).2.2.2

/-! ## Where a choice is made -/

/-- Some slot holds a claim that it did not hold before the event (R53). -/
theorem newClaim_iff (before after : State) :
    newClaim before after = true ↔
      ∃ n : Slot, (after.identifyCandidate n = true ∧ before.identifyCandidate n = false) ∨
        (after.attentionEligible n = true ∧ before.attentionEligible n = false) ∨
        (after.transferEligible n = true ∧ before.transferEligible n = false) := by
  simp [newClaim, List.any_eq_true, mem_allSlots, or_assoc]

theorem choiceDue_iff (before after : State) :
    choiceDue before after = true ↔
      (before.busFree = false ∧ after.busFree = true) ∨ newClaim before after = true := by
  simp [choiceDue]

/-- Without an event that calls for a choice, an event is its own effects alone (R53). -/
theorem react_of_not_due {before after : State} (h : choiceDue before after ≠ true) : react before after = after :=
  if_neg h

/-- Settles O18, by whether the event calls for a choice and whether the arbiter may make one. -/
theorem choiceIsMadeAtTheEventsNamed : Obligations.ChoiceIsMadeAtTheEventsNamed := by
  intro before after event may
  have hevent : choiceDue before after = true ↔ event := by rw [choiceDue_iff, newClaim_iff]
  have hmay : after.mayChoose = true ↔ may := by
    rw [State.mayChoose_iff]
    tauto
  refine ⟨fun he hm c hc => ?chosen, fun _ _ hc => ?noClaim, fun hm => ?shut, fun he => ?noEvent⟩
  case chosen => rw [react, if_pos (hevent.2 he), State.choose_of_choice (hmay.2 hm) hc]
  case noClaim => exact react_of_no_choice hc
  case shut => exact react_of_not_mayChoose (by simpa using mt hmay.1 hm)
  case noEvent => exact react_of_not_due (mt hevent.1 he)

/-! ## The start and the end of an operation -/

/-- What the word cycle of a burst drives that begins: the store word at offset moved in a BURST_OUT (R33). -/
theorem State.drive_burst (s : State) {n : Slot} {x : Transfer} (hx : (s.context n).transfer = some x) (b : Burst) :
    s.drive n (.burst b) =
      .burst { b with driven := if b.direction = .output then (x.address x.moved).map s.store.read else none } := by
  rw [(s.drive_eq n _).2.2 b rfl]
  simp [State.nextWord, hx]

/-- Settles O17. -/
theorem startMakesTheOperationRecord : Obligations.StartMakesTheOperationRecord := by
  intro s n
  refine ⟨rfl, rfl, fun x i hx hi => ?_⟩
  have hsize : s.burstSize n x =
      if i.burstLimit.toNat ≤ x.count - x.moved then i.burstLimit.toNat else x.count - x.moved := by
    simp [State.burstSize, hi, min_def]
  simp only [State.start, hx, State.startOperation, State.beginWord, State.drive_burst s hx, hsize]

/-- Outside HOLDING the end of an operation leaves the hold state and the command unit; in HOLDING it completes the HOLD
(R56). -/
theorem State.completeHold_eq (s : State) :
    (s.arb.hold = .holding → s.completeHold =
      { s with arb := { s.arb with hold := .held },
               cmd := { s.cmd with executing := none, result := .ok, resultData := 0#16 } }) ∧
    (s.arb.hold ≠ .holding → s.completeHold = s) :=
  ⟨fun h => if_pos h, fun h => if_neg h⟩

/-- Settles O19: turn and origin by the operation's kind, then the hold state by whether a HOLD waits. -/
theorem operationEndSetsTurnOriginAndHold : Obligations.OperationEndSetsTurnOriginAndHold := by
  intro s n kind u
  have hframe : u = { s with arb := u.arb, cmd := u.cmd } := s.operationEnd_frame kind n
  refine ⟨hframe, (s.keeps_operationEnd kind n).order, ?_⟩
  have hhold : (s.updateTurn kind n).arb.hold = s.arb.hold := by cases kind <;> rfl
  have hcmd : (s.updateTurn kind n).cmd = s.cmd := by cases kind <;> rfl
  obtain ⟨hholding, hother⟩ := (s.updateTurn kind n).completeHold_eq
  have hturn : u.arb.turn = (s.updateTurn kind n).arb.turn ∧ u.arb.origin = (s.updateTurn kind n).arb.origin := by
    by_cases h : (s.updateTurn kind n).arb.hold = .holding
    · exact ⟨congrArg (·.arb.turn) (hholding h), congrArg (·.arb.origin) (hholding h)⟩
    · exact ⟨congrArg (·.arb.turn) (hother h), congrArg (·.arb.origin) (hother h)⟩
  refine ⟨?ofIdentify, ?ofAcknowledge, ?ofBurst, fun h => ?holding, fun h => ?other⟩
  case ofIdentify => rintro w rfl; exact hturn
  case ofAcknowledge => rintro rfl; exact hturn
  case ofBurst =>
    rintro b rfl
    exact ⟨hturn.1, congrArg Fin.val hturn.2⟩
  case holding =>
    have hu := hholding (hhold.trans h)
    exact ⟨congrArg (·.arb.hold) hu, (congrArg State.cmd hu).trans (by simp [hcmd])⟩
  case other =>
    have hu := hother (hhold ▸ h)
    exact ⟨(congrArg (·.arb.hold) hu).trans hhold, (congrArg State.cmd hu).trans hcmd⟩

end Sys2Proof.Machine
end

section
/-! SUPPORT. What a command can do, said once: every command is a chain of elementary changes, each the rule of one block
and each with what it may rest on; the laws over all commands follow by a case for each elementary change. -/

namespace Sys2Proof.Machine

/-! ## The row of a command -/

/-- The row of the table that a host command has (R157). -/
def Command.row : Command → Instr
  | .setMode => .setMode
  | .setOrder => .setOrder
  | .hold => .hold
  | .resume => .resume
  | .reidentify => .reidentify
  | .unfence => .unfence
  | .takeAttention => .takeAttention
  | .retire => .retire
  | .openContext => .openContext
  | .arm => .arm
  | .abort => .abort
  | .close => .close
  | .nextEvent => .nextEvent
  | .busReset => .busReset

/-- The row of a write of COMMAND (R157). -/
def commandRow (w : Word) : Instr :=
  match commandOf w with
  | some c => c.row
  | none => .unknownCommand w

/-- The row of a write at an address: that of the register there, where it has one (10 section 10.1). -/
def addressRow (address : BitVec 5) (w : Word) : Instr :=
  match address.toNat with
  | 0x00 => .statusWrite w
  | 0x01 => .controlWrite w
  | 0x02 => .timingWrite w
  | 0x03 => commandRow w
  | 0x0E => .storePointerWrite w
  | 0x0F => .storeDataWrite w
  | 0x11 => .slotSelectWrite w
  | _ => .registerWrite address w

/-- The row of the event that a command is: a write at the address of a register with a row of its own is that row, and a
word that names a command is that command (log 16). -/
def rowOf : Instr → Instr
  | .unknownCommand w => commandRow w
  | .registerWrite address w => addressRow address w
  | i => i

/-- A COMMAND word names a command exactly where it is that command's code (R157). -/
theorem commandOf_eq_some_iff (w : Word) (c : Command) : commandOf w = some c ↔ w = c.code := by
  refine ⟨fun h => BitVec.eq_of_toNat_eq ?_, fun h => h ▸ commandOf_code c⟩
  unfold commandOf at h
  split at h <;> cases h <;> assumption

theorem exec_command_row (c : Command) (s : State) : exec c.row s = .next (s.writeCommand c.code) := by
  cases c <;> rfl

theorem exec_commandRow (w : Word) (s : State) : exec (commandRow w) s = .next (s.writeCommand w) := by
  unfold commandRow
  split
  · next c hc => rw [exec_command_row, (commandOf_eq_some_iff w c).1 hc]
  · rfl

theorem commandRow_ne_registerWrite (w : Word) (address : BitVec 5) (v : Word) :
    commandRow w ≠ .registerWrite address v := by
  unfold commandRow
  split
  · next c _ => cases c <;> nofun
  · nofun

theorem rowOf_commandRow (w : Word) : rowOf (commandRow w) = commandRow w := by
  rcases h : commandOf w with _ | c
  · simp [commandRow, h, rowOf]
  · simp only [commandRow, h]
    cases c <;> rfl

/-- A write at an address is a REGISTER_WRITE, or has a row of its own. -/
theorem addressRow_cases (address : BitVec 5) (w : Word) :
    addressRow address w = .registerWrite address w ∨ rowOf (addressRow address w) = addressRow address w := by
  unfold addressRow
  split
  · exact .inr rfl
  · exact .inr rfl
  · exact .inr rfl
  · exact .inr (rowOf_commandRow w)
  · exact .inr rfl
  · exact .inr rfl
  · exact .inr rfl
  · exact .inl rfl

/-- A row stands in its own row. -/
theorem rowOf_rowOf (i : Instr) : rowOf (rowOf i) = rowOf i := by
  cases i with
  | unknownCommand w => exact rowOf_commandRow w
  | registerWrite address w =>
    rcases addressRow_cases address w with h | h
    · have hself : rowOf (.registerWrite address w) = .registerWrite address w := h
      rw [hself, hself]
    · exact h
  | _ => rfl

/-- A write at an address does what its row does (log 16). -/
theorem exec_addressRow (address : BitVec 5) (w : Word) (s : State) :
    exec (addressRow address w) s = exec (.registerWrite address w) s := by
  unfold addressRow
  split
  · next h => obtain rfl : address = 0x00#5 := BitVec.eq_of_toNat_eq h; rfl
  · next h => obtain rfl : address = 0x01#5 := BitVec.eq_of_toNat_eq h; rfl
  · next h => obtain rfl : address = 0x02#5 := BitVec.eq_of_toNat_eq h; rfl
  · next h => obtain rfl : address = 0x03#5 := BitVec.eq_of_toNat_eq h; exact exec_commandRow w s
  · next h => obtain rfl : address = 0x0E#5 := BitVec.eq_of_toNat_eq h; rfl
  · next h => obtain rfl : address = 0x0F#5 := BitVec.eq_of_toNat_eq h; rfl
  · next h => obtain rfl : address = 0x11#5 := BitVec.eq_of_toNat_eq h; rfl
  · rfl

/-- A command does what its row does (log 16). -/
theorem exec_rowOf (i : Instr) (s : State) : exec (rowOf i) s = exec i s := by
  cases i with
  | unknownCommand w => exact exec_commandRow w s
  | registerWrite address w => exact exec_addressRow address w s
  | _ => rfl

theorem Command.code_mem_commandWords (c : Command) : c.code ∈ commandWords := by cases c <;> decide

/-- A word that is none of the fourteen codes names no command (R157). -/
theorem commandOf_eq_none {w : Word} (h : w ∉ commandWords) : commandOf w = none :=
  Option.eq_none_iff_forall_ne_some.2 fun c hc => h ((commandOf_eq_some_iff w c).1 hc ▸ c.code_mem_commandWords)

/-- A well-formed command stands in its own row. -/
theorem rowOf_of_wellFormed {i : Instr} (h : i.wellFormed = true) : rowOf i = i := by
  cases i with
  | unknownCommand w =>
    have hnone : commandOf w = none := commandOf_eq_none (by simpa [Instr.wellFormed] using h)
    simp [rowOf, commandRow, hnone]
  | registerWrite address w =>
    have hother : address ∉ addressesWithOwnRow := by simpa [Instr.wellFormed] using h
    have hown : ∀ a : BitVec 5, a ∈ addressesWithOwnRow → address.toNat ≠ a.toNat :=
      fun a ha heq => hother (BitVec.eq_of_toNat_eq heq ▸ ha)
    show addressRow address w = _
    unfold addressRow
    split
    · next h0 => exact absurd h0 (hown 0x00#5 (by decide))
    · next h1 => exact absurd h1 (hown 0x01#5 (by decide))
    · next h2 => exact absurd h2 (hown 0x02#5 (by decide))
    · next h3 => exact absurd h3 (hown 0x03#5 (by decide))
    · next hE => exact absurd hE (hown 0x0E#5 (by decide))
    · next hF => exact absurd hF (hown 0x0F#5 (by decide))
    · next h11 => exact absurd h11 (hown 0x11#5 (by decide))
    · rfl
  | _ => rfl

/-! ## Elementary changes -/

/-- A context goes on: it stays CLOSED, or stays open with its fixed fields and with moved no lower (R92, R93). -/
structure Context.continues (c d : Context) : Prop where
  closed : c.transfer = none → d.transfer = none
  isOpen : ∀ x, c.transfer = some x →
    ∃ y, d.transfer = some y ∧ y.direction = x.direction ∧ y.count = x.count ∧ y.tag = x.tag ∧ y.pages = x.pages ∧
      x.moved ≤ y.moved

/-- One elementary change of the part in a command `i`, or in a step on an empty queue where `i` is none. What a command
sets by its own rule names that command. -/
inductive Change (i : Option Instr) (s : State) : State → Prop
  /-- The operation record; an ACKNOWLEDGE is of an eligible slot or was in flight before (R46, R52). -/
  | operation (op : Option Operation)
      (h : ∀ o ∈ op, o.kind = .acknowledge →
        s.attentionEligible o.slot = true ∨ ∃ p ∈ s.op, p.kind = .acknowledge ∧ p.slot = o.slot) :
      Change i s { s with op := op }
  /-- The slot records, but for the programmed mode; a count stays at or below 15 (R116). -/
  | records (slots : Vector SlotRecord 8)
      (h : ∀ n : Slot, slots[n].mode = (s.slot n).mode ∧ slots[n].errorCount ≤ max 15 (s.slot n).errorCount) :
      Change i s { s with slots := slots }
  /-- A context that goes on (R99 to R107). -/
  | context (n : Slot) (c : Context) (h : (s.context n).continues c) : Change i s { s with contexts := s.contexts.set n c }
  /-- A SEAT-class change (R127). -/
  | seatEntry (n : Slot) (change : SeatChange) : Change i s { s with events := insertSeat n change s.events }
  /-- A TRANSFER-class entry (R129). -/
  | transferEntry (n : Slot) (ending : TransferEnd) (tag : BitVec 8) (direction : Direction) (words : Nat) :
      Change i s { s with events := s.events ++ [.transfer n ending tag direction words] }
  /-- The command unit and the arbiter, but for its list; RUNNING is not entered (R49 to R56, R148). -/
  | unit (cmd : CommandUnit) (origin : Position) (turn : Turn) (hold : HoldState)
      (h : hold = .running → s.arb.hold = .running) :
      Change i s { s with cmd := cmd, arb := { s.arb with origin := origin, turn := turn, hold := hold } }
  /-- A vector delivered, its ACKNOWLEDGE over (R64). -/
  | vector (o : Operation) (ho : s.op = some o) (hk : o.kind = .acknowledge) (service : BitVec 6) (vector : Word) :
      Change i s { s with op := none, attention := s.attention ++ [⟨o.slot, service, vector⟩] }
  /-- A slot's attention entry and its place in the in-service set go (R72). -/
  | purge (n : Slot) : Change i s (s.purge n)
  /-- The attention structures are empty (R73). -/
  | noAttention : Change i s { s with attention := [], inService := Vector.replicate 8 false }
  /-- The CLEAR line (R37, R39). -/
  | clearLine (level : Bool) : Change i s { s with clear := level }
  /-- The input lines and what is the host window's alone. -/
  | outside (lines : Lines) (readData : Option Word) (starting overrun windowFault : Bool) (pointer : StorePointer)
      (slotSelect : Slot) :
      Change i s { s with
        lines := lines, readData := readData, starting := starting, overrun := overrun, windowFault := windowFault
        pointer := pointer, slotSelect := slotSelect }
  /-- A word that a BURST_IN moves (R34). -/
  | storeWord (a : Nat) (v : Word) (ha : a < Config.storeWords) (h : ∃ l d p, i = some (.replyTaken l d p)) :
      Change i s { s with store := s.store.write a v }
  /-- A word that the host stores (R88). -/
  | hostWord (a : Nat) (v : Word) (ha : a < Config.storeWords) (h : i = some (.storeDataWrite v)) :
      Change i s { s with store := s.store.write a v }
  /-- The start-up clear (R77). -/
  | clearStore (h : i = some .startingEnd) : Change i s { s with store := [] }
  /-- CONTROL (R144). -/
  | control (w : Word) (h : i = some (.controlWrite w)) : Change i s { s with control := controlOfWord w }
  /-- TIMING (R145). -/
  | timing (w : Word) (h : i = some (.timingWrite w)) : Change i s { s with timing := timingOfWord w }
  /-- A programmed mode (R17). -/
  | mode (n : Slot) (m : Mode) (h : i = some .setMode) : Change i s (s.setSlot n { s.slot n with mode := m })
  /-- The chain order list (R44). -/
  | order (order : Vector Slot 8) (hnodup : order.toList.Nodup) (h : i = some .setOrder) :
      Change i s { s with arb := { s.arb with order := order } }
  /-- RUNNING, from HELD (R57). -/
  | run (h : i = some .resume) : Change i s { s with arb := { s.arb with hold := .running } }
  /-- The head of the attention queue goes into service (R68). -/
  | serve (e : AttentionEntry) (rest : List AttentionEntry) (hhead : s.attention = e :: rest) :
      Change i s { s with attention := rest, inService := s.inService.set e.slot true }
  /-- A slot leaves the in-service set (R70). -/
  | retire (n : Slot) : Change i s { s with inService := s.inService.set n false }
  /-- A context opens on the pages at the head of the free page list (R80, R94). -/
  | openPages (n : Slot) (x : Transfer) (h : i = some .openContext) (hclosed : (s.context n).transfer = none)
      (hmin : 1 ≤ x.count) (hmax : x.count ≤ 2048) (hspace : pagesFor x.count ≤ s.freePages.length)
      (hpages : x.pages = s.freePages.take (pagesFor x.count)) :
      Change i s { s with
        freePages := s.freePages.drop (pagesFor x.count)
        contexts := s.contexts.set n { transfer := some x, abortPending := false } }
  /-- A context closes and its pages join the free page list (R82). -/
  | closePages (n : Slot) (x : Transfer) (h : i = some .close) (hopen : (s.context n).transfer = some x) :
      Change i s (s.closeContext n x)
  /-- The head of the event queue goes (R135). -/
  | dropEntry (e : Event) (rest : List Event) (h : i = some .nextEvent) (hhead : s.events = e :: rest) :
      Change i s { s with events := rest }
  /-- Pin reset (R155). -/
  | pinReset (h : i = some .pinReset) : Change i s s.pinReset

/-- A chain of elementary changes. -/
abbrev Changes (i : Option Instr) : State → State → Prop := Relation.ReflTransGen (Change i)

/-! ## The shared operations as chains of changes -/

section

variable (i : Option Instr) (s : State)

/-- Only the record of one slot changes, and not in its mode. -/
theorem changes_setSlot (n : Slot) (r : SlotRecord) (hmode : r.mode = (s.slot n).mode)
    (hcount : r.errorCount ≤ max 15 (s.slot n).errorCount) : Changes i s (s.setSlot n r) := by
  refine .single (.records _ fun m => ?_)
  rw [vector_get_set]
  split
  · next e => exact e ▸ ⟨hmode, hcount⟩
  · exact ⟨rfl, le_max_right _ _⟩

/-- The record of one slot changes in neither mode nor count. -/
theorem changes_setSlot_kept (n : Slot) (r : SlotRecord) (hmode : r.mode = (s.slot n).mode)
    (hcount : r.errorCount = (s.slot n).errorCount) : Changes i s (s.setSlot n r) :=
  changes_setSlot i s n r hmode (hcount ▸ le_max_right _ _)

/-- The record of one slot changes and its count goes to 0. -/
theorem changes_setSlot_zero (n : Slot) (r : SlotRecord) (hmode : r.mode = (s.slot n).mode) (hcount : r.errorCount = 0) :
    Changes i s (s.setSlot n r) :=
  changes_setSlot i s n r hmode (hcount ▸ Nat.zero_le _)

/-- The operation record goes, or is no ACKNOWLEDGE. -/
theorem changes_op (op : Option Operation) (h : ∀ o ∈ op, o.kind ≠ .acknowledge) : Changes i s { s with op := op } :=
  .single (.operation op fun o ho hk => absurd hk (h o ho))

theorem changes_op_none : Changes i s { s with op := none } := changes_op i s none nofun

/-- The operation in flight goes on in its kind and slot. -/
theorem changes_op_same {o p : Operation} (ho : s.op = some o) (hkind : p.kind = .acknowledge → o.kind = .acknowledge)
    (hslot : p.slot = o.slot) : Changes i s { s with op := some p } :=
  .single (.operation _ fun q hq hk => by
    cases hq
    exact .inr ⟨o, ho, hkind hk, hslot.symm⟩)

theorem changes_complete (r : Result) (d : Word) : Changes i s (s.complete r d) :=
  .single (.unit { s.cmd with executing := none, result := r, resultData := d } s.arb.origin s.arb.turn s.arb.hold id)

theorem changes_execute : Changes i s s.execute :=
  .single (.unit { s.cmd with executing := some ⟨s.cmd.code, s.cmd.opa, s.cmd.opb⟩ } s.arb.origin s.arb.turn s.arb.hold id)

theorem changes_takeWord (w : Word) : Changes i s (s.takeWord w) :=
  .single (.unit { s.cmd with code := w, resultData := 0 } s.arb.origin s.arb.turn s.arb.hold id)

theorem changes_reportSeat (n : Slot) (change : SeatChange) : Changes i s (s.reportSeat n change) :=
  .single (.seatEntry n change)

/-- The transfer of an open context changes in its phase, and in moved no lower. -/
theorem changes_setTransfer {n : Slot} {x : Transfer} (hx : (s.context n).transfer = some x) (phase : Phase)
    (moved : Nat) (hmoved : x.moved ≤ moved) :
    Changes i s (s.setTransfer n { x with phase := phase, moved := moved }) := by
  refine .single (.context n _ ⟨fun h => (nomatch hx.symm.trans h), fun y hy => ?_⟩)
  obtain rfl : x = y := Option.some.inj (hx.symm.trans hy)
  exact ⟨_, rfl, rfl, rfl, rfl, rfl, hmoved⟩

theorem changes_setAbortPending (n : Slot) (pending : Bool) :
    Changes i s (s.setContext n { s.context n with abortPending := pending }) :=
  .single (.context n _ ⟨id, fun x hx => ⟨x, hx, rfl, rfl, rfl, rfl, le_rfl⟩⟩)

/-! ### Transfer engine and seat monitor -/

theorem changes_halt (n : Slot) (r : HaltReason) : Changes i s (s.halt n r) := by
  unfold State.halt
  split
  · next x hx =>
    split
    · exact (changes_setTransfer i s hx (.halted r) x.moved le_rfl).tail (.transferEntry ..)
    · exact .refl
  · exact .refl

theorem changes_settleAbort (n : Slot) : Changes i s (s.settleAbort n) := by
  have hcleared := changes_setAbortPending i s n false
  simp only [State.settleAbort]
  split
  · split
    · exact hcleared.trans (changes_complete i _ _ _)
    · exact hcleared.trans (changes_complete i _ _ _)
    · exact (hcleared.trans (changes_halt i _ n .aborted)).trans (changes_complete i _ _ _)
    · exact hcleared
  · exact .refl

/-- A word counted in a context goes with the entry and the count that its last word brings (R99, R100). -/
theorem changes_countWord {n : Slot} {x : Transfer} (hx : (s.context n).transfer = some x) :
    Changes i s (if x.moved + 1 = x.count then
      ((s.setTransfer n { x with moved := x.moved + 1, phase := .done }).reportTransfer n .done x x.count).clearErrors n
    else s.setTransfer n { x with moved := x.moved + 1 }) := by
  split
  · refine .trans ?_ (changes_setSlot_zero i _ n _ rfl rfl)
    exact (changes_setTransfer i s hx .done (x.moved + 1) (Nat.le_succ _)).tail (.transferEntry ..)
  · exact changes_setTransfer i s hx x.phase (x.moved + 1) (Nat.le_succ _)

theorem changes_moveWord (hi : ∃ l d p, i = some (.replyTaken l d p)) (n : Slot) (direction : Direction) (data : Word) :
    Changes i s (s.moveWord n direction data) := by
  unfold State.moveWord
  split
  · next x hx =>
    split
    · cases direction with
      | input =>
        have hcontext := s.storeReceived_context x data n
        refine .trans ?_ (changes_countWord i (s.storeReceived x data) (hcontext ▸ hx))
        rcases ha : x.address x.moved with _ | a
        · simp only [State.storeReceived, ha]
          exact .refl
        · rw [State.storeReceived_of_address s x data a ha]
          exact .single (.storeWord a data (x.address_lt _ a ha) hi)
      | output => exact changes_countWord i s hx
    · exact .refl
  · exact .refl

theorem changes_countError (n : Slot) (e : LastError) : Changes i s (s.countError n e) := by
  unfold State.countError
  split
  · exact changes_setSlot i s n _ rfl (le_max_of_le_left (min_le_left _ _))
  · exact .refl

theorem changes_judge (n : Slot) (kind : Option ErrorKind) : Changes i s (s.judge n kind) := by
  unfold State.judge
  split
  · refine .trans (.trans ?_ (changes_halt i _ n .fenced)) (changes_reportSeat i _ n _)
    exact changes_setSlot_kept i s n _ rfl rfl
  · exact .refl

theorem changes_enterSettling (n : Slot) : Changes i s (s.enterSettling n) := changes_setSlot_zero i s n _ rfl rfl

theorem changes_failIdentify (n : Slot) (kind : ErrorKind) (index : Nat) : Changes i s (s.failIdentify n kind index) := by
  refine .trans ?_ (changes_reportSeat i _ n _)
  exact changes_setSlot_kept i s n _ rfl rfl

/-! ### Arbiter -/

/-- The ACKNOWLEDGE that is chosen is of an eligible slot (R51). -/
theorem State.attentionEligible_of_choice {s : State} {n : Slot} (h : s.choice = some (.acknowledge n)) :
    s.attentionEligible n = true := by
  unfold State.choice at h
  split at h
  · cases h
  · split at h
    · next a t ha _ =>
      split at h
      · cases h; exact List.find?_some ha
      · cases h
    · next a ha _ => cases h; exact List.find?_some ha
    · cases h
    · cases h

theorem changes_choose : Changes i s s.choose := by
  unfold State.choose
  split
  · split
    · next c hc =>
      cases c with
      | identify n =>
        refine .trans ?_ (changes_op i _ _ ?_)
        · exact changes_setSlot_kept i s n _ rfl rfl
        · rintro _ ⟨⟩ ⟨⟩
      | acknowledge n =>
        refine .single (.operation _ ?_)
        rintro _ ⟨⟩ _
        exact .inl (State.attentionEligible_of_choice hc)
      | burst n =>
        simp only [State.start]
        split
        · exact changes_op i s _ (by rintro _ ⟨⟩ ⟨⟩)
        · exact .refl
    · exact .refl
  · exact .refl

theorem changes_react (before : State) : Changes i s (react before s) := by
  unfold react
  split
  · exact changes_choose i s
  · exact .refl

theorem changes_operationEnd (kind : OperationKind) (n : Slot) : Changes i s (s.operationEnd kind n) := by
  have hturn : Changes i s (s.updateTurn kind n) := by
    cases kind with
    | identify w => exact .refl
    | acknowledge => exact .single (.unit s.cmd s.arb.origin .transfer s.arb.hold id)
    | burst b => exact .single (.unit s.cmd (s.nextOrigin n) .attention s.arb.hold id)
  refine hturn.trans ?_
  unfold State.operationEnd State.completeHold
  split
  · exact .single (.unit _ _ _ .held nofun)
  · exact .refl

theorem changes_cut : Changes i s s.cut := by
  unfold State.cut
  split
  · exact (changes_op_none i s).trans (changes_operationEnd i _ _ _)
  · exact .refl

/-! ### Bus sequencer -/

theorem changes_beginWord (o : Operation) (hk : o.kind ≠ .acknowledge) : Changes i s (s.beginWord o) := by
  refine changes_op i s _ ?_
  rintro _ ⟨⟩ hdrive
  cases hkind : o.kind with
  | identify w => simp [hkind, State.drive] at hdrive
  | acknowledge => exact hk hkind
  | burst b => simp [hkind, State.drive] at hdrive

theorem changes_endIdentify (o : Operation) (outcome : IdentifyOutcome) : Changes i s (s.endIdentify o outcome) := by
  refine .trans (.trans (changes_op_none i s) ?_) (changes_operationEnd i _ _ _)
  unfold State.identifyOutcome
  split
  · cases outcome with
    | good w0 w1 =>
      simp only []
      split
      · refine .trans ?_ (changes_reportSeat i _ _ _)
        exact changes_setSlot_zero i _ _ _ rfl rfl
      · exact changes_failIdentify i _ _ _ _
    | error kind index => exact changes_failIdentify i _ _ _ _
  · exact .refl

theorem changes_endAcknowledge {o : Operation} (ho : s.op = some o) (hk : o.kind = .acknowledge)
    (outcome : AcknowledgeOutcome) : Changes i s (s.endAcknowledge o outcome) := by
  refine .trans ?_ (changes_operationEnd i _ _ _)
  cases outcome with
  | vector w => exact .single (.vector o ho hk _ w)
  | withdrawn => exact changes_op_none i s
  | error kind =>
    exact ((changes_op_none i s).trans (changes_countError i _ _ _)).trans (changes_judge i _ _ _)

theorem changes_endBurst (o : Operation) (cause : EndCause) : Changes i s (s.endBurst o cause) := by
  refine .trans (.trans (.trans (changes_op_none i s) ?_) (changes_settleAbort i _ _)) (changes_operationEnd i _ _ _)
  cases cause with
  | sizeReached => exact changes_judge i _ _ _
  | cardStop => exact changes_judge i _ _ _
  | error kind index => exact (changes_countError i _ _ _).trans (changes_judge i _ _ _)
  | boundary => exact changes_judge i _ _ _

theorem changes_requestBoundary (n : Slot) : Changes i s (s.requestBoundary n) := by
  unfold State.requestBoundary
  split
  · split
    · split
      · exact changes_endBurst i s _ _
      · exact changes_op i s _ (by rintro _ ⟨⟩ ⟨⟩)
      · exact changes_op i s _ (by rintro _ ⟨⟩ ⟨⟩)
      · exact changes_op i s _ (by rintro _ ⟨⟩ ⟨⟩)
    · exact .refl
  · exact .refl

theorem changes_takeReply (hi : ∃ l d p, i = some (.replyTaken l d p)) {o : Operation} (ho : s.op = some o) (a : Answer) :
    Changes i s (s.takeReply o a) := by
  have hphase : Changes i s { s with op := some { o with phase := .answered a } } := changes_op_same i s ho id rfl
  unfold State.takeReply
  split
  · exact hphase
  · exact hphase
  · split
    · exact (changes_moveWord i s hi _ _ _).trans (changes_op i _ _ (by rintro _ ⟨⟩ ⟨⟩))
    · exact hphase

theorem changes_releaseWord {o : Operation} (ho : s.op = some o) (a : Answer) : Changes i s (s.releaseWord o a) := by
  refine changes_op_same i s ho (fun hk => ?_) rfl
  cases hkind : o.kind with
  | acknowledge => rfl
  | identify w => simp [hkind, OperationKind.undriven] at hk
  | burst b => simp [hkind, OperationKind.undriven] at hk

theorem changes_endWord {o : Operation} (ho : s.op = some o) (a : Answer) : Changes i s (s.endWord o a) := by
  unfold State.endWord
  split
  · unfold State.endIdentifyWord
    split
    · split
      · split
        · exact changes_beginWord i s _ nofun
        · exact changes_endIdentify i s _ _
      · exact changes_endIdentify i s _ _
    · exact changes_endIdentify i s _ _
    · exact changes_endIdentify i s _ _
  · next hk =>
    unfold State.endAcknowledgeWord
    split
    · split <;> exact changes_endAcknowledge i s ho hk _
    · exact changes_endAcknowledge i s ho hk _
    · exact changes_endAcknowledge i s ho hk _
  · next b hk =>
    unfold State.endBurstWord
    split
    · split
      · unfold State.afterWord
        split
        · exact changes_endBurst i s _ _
        · split
          · exact changes_endBurst i s _ _
          · exact changes_beginWord i s _ (by simp [hk])
      · exact changes_endBurst i s _ _
    · exact changes_endBurst i s _ _
    · exact changes_endBurst i s _ _

theorem changes_finishWord : Changes i s s.finishWord := by
  unfold State.finishWord
  split
  · next o ho =>
    split
    · exact changes_endWord i s ho _
    · exact .refl
  · exact .refl

theorem changes_timeout {o : Operation} (ho : s.op = some o) : Changes i s (s.timeout o) := by
  unfold State.timeout
  split
  · exact changes_endIdentify i s _ _
  · next hk => exact changes_endAcknowledge i s ho hk _
  · exact changes_endBurst i s _ _

/-! ### Seating and the resets -/

/-- A pass over some slots, each step of which is a chain of changes. -/
theorem changes_foldl (f : State → Slot → State) (h : ∀ s n, Changes i s (f s n)) (l : List Slot) :
    Changes i s (l.foldl f s) := by
  induction l generalizing s with
  | nil => exact .refl
  | cons n l ih => exact (h s n).trans (ih _)

theorem changes_cutSlot (n : Slot) : Changes i s (s.cutSlot n) := by
  unfold State.cutSlot
  split
  · split
    · exact (changes_finishWord i s).trans (changes_cut i _)
    · exact .refl
  · exact .refl

theorem changes_remove (n : Slot) : Changes i s (s.remove n) := by
  have hgone := (changes_cutSlot i s n).trans
    (changes_setSlot_kept i _ n { (s.cutSlot n).slot n with seat := .empty, timer := none, ident := none } rfl rfl)
  exact ((hgone.tail (.purge n)).trans (changes_reportSeat i _ n .unseated)).trans (changes_halt i _ n .unseated)
    |>.trans (changes_settleAbort i _ n)

theorem changes_elapse (k : Nat) : Changes i s (s.elapse k) :=
  .single (.records _ fun n => by simp)

theorem changes_expire (n : Slot) : Changes i s (s.expire n) := by
  refine .trans ?_ (changes_react i _ _)
  exact changes_setSlot_kept i s n _ rfl rfl

theorem changes_settleExpiry (n : Slot) : Changes i s (s.settleExpiry n) := by
  unfold State.settleExpiry
  split
  · exact (changes_elapse i s _).trans (changes_expire i _ n)
  · exact .refl

theorem changes_microsecond : Changes i s s.microsecond :=
  (changes_elapse i s 1).trans (changes_foldl i _ _ (changes_expire i) _)

theorem changes_idle : Changes i s s.idle := by
  unfold State.idle
  split
  · next o ho =>
    split
    · exact changes_microsecond i s
    · exact changes_microsecond i s
    · exact changes_releaseWord i s ho _
    · exact (changes_finishWord i s).trans (changes_react i _ _)
  · exact changes_microsecond i s

theorem changes_applyThresholds : Changes i s s.applyThresholds := by
  refine changes_foldl i s _ (fun u n => ?_) _
  unfold State.applyThreshold
  split
  · split
    · exact changes_requestBoundary i u n
    · exact changes_judge i u n none
  · exact .refl

/-- BUS RESET leaves a slot's count or clears it (R19). -/
theorem SlotRecord.busReset_errorCount_le (r : SlotRecord) : r.busReset.errorCount ≤ r.errorCount := by
  unfold SlotRecord.busReset
  split <;> simp

theorem changes_busReset : Changes i s s.busReset := by
  have blocks : ∀ u : State, Changes i u { u with
      clear := true, slots := Vector.ofFn fun n : Slot => (u.slot n).busReset
      arb := { u.arb with origin := 0, turn := .attention }, attention := [], inService := Vector.replicate 8 false } := by
    intro u
    have hrecords : Changes i u { u with slots := Vector.ofFn fun n : Slot => (u.slot n).busReset } :=
      .single (.records _ fun n => by
        simpa [SlotRecord.busReset_mode] using .inr (u.slot n).busReset_errorCount_le)
    exact ((hrecords.tail (.clearLine true)).tail (.unit u.cmd 0 .attention u.arb.hold id)).tail .noAttention
  have hhalted : Changes i s s.finishWord.cut.haltAll :=
    ((changes_finishWord i s).trans (changes_cut i _)).trans
      (changes_foldl i _ _ (fun u n => changes_halt i u n .busReset) allSlots)
  exact hhalted.trans (blocks _)

theorem changes_seatActive (n : Slot) : Changes i s (s.seatActive n) := by
  have hline : Changes i s { s with lines := { s.lines with seat := s.lines.seat.set n true } } :=
    .single (.outside ..)
  simp only [State.seatActive]
  split
  · exact hline.trans (changes_enterSettling i _ n)
  · exact hline

theorem changes_seatInactive (n : Slot) : Changes i s (s.seatInactive n) := by
  have hline : Changes i s { s with lines := s.lines.unseat n } := .single (.outside ..)
  have hremoved : Changes i s (react s ({ s with lines := s.lines.unseat n }.remove n)) :=
    (hline.trans (changes_remove i _ n)).trans (changes_react i _ _)
  simp only [State.seatInactive]
  split
  · split
    · exact hline
    · exact hline.trans (changes_setSlot_kept i _ n _ rfl rfl)
    · exact hremoved
    · exact hremoved
    · exact hremoved
    · exact hremoved
    · exact hremoved
  · exact hline

theorem changes_release : Changes i s s.release := by
  unfold State.release
  split
  · refine .tail (b := { s with lines := { s.lines with rstin := false }, starting := true }) ?_ (.clearLine true)
    exact .single (.outside ..)
  · exact .refl

theorem changes_endStarting (hi : i = some .startingEnd) : Changes i s s.endStarting := by
  unfold State.endStarting
  split
  · have hclear : Changes i s { s with starting := false, clear := false, store := [] } := by
      refine .tail (b := { s with starting := false, clear := false }) ?_ (.clearStore hi)
      refine .tail (b := { s with starting := false }) ?_ (.clearLine false)
      exact .single (.outside ..)
    refine (hclear.trans (changes_foldl i _ _ (fun u n => ?_) allSlots)).trans (changes_choose i _)
    split
    · exact changes_enterSettling i u n
    · exact .refl
  · exact .refl

theorem changes_endClear : Changes i s s.endClear := by
  have hclear : Changes i s { s with clear := false } := .single (.clearLine false)
  unfold State.endClear
  split
  · refine .trans ?_ (changes_react i _ _)
    split
    · split
      · exact hclear.trans (changes_complete i _ _ _)
      · exact hclear
    · exact hclear
  · exact .refl

/-! ### The host's commands -/

theorem changes_runSetMode (hi : i = some .setMode) : Changes i s s.runSetMode := by
  simp only [State.runSetMode]
  split
  · next m _ =>
    refine .trans (.trans ?_ (changes_complete i _ .ok 0)) (changes_react i _ _)
    exact .single (.mode _ m hi)
  · exact changes_complete i s _ _

theorem changes_runReidentify : Changes i s s.runReidentify := by
  simp only [State.runReidentify]
  split
  · refine .trans (.trans ?_ (changes_complete i _ .ok 0)) (changes_react i _ _)
    exact changes_setSlot_kept i s _ _ rfl rfl
  · exact changes_complete i s _ _

theorem changes_runUnfence : Changes i s s.runUnfence := by
  simp only [State.runUnfence]
  split
  · refine .trans (.trans ?_ (changes_complete i _ .ok 0)) (changes_react i _ _)
    exact changes_setSlot_zero i s _ _ rfl rfl
  · exact changes_complete i s _ _

theorem changes_runSetOrder (hi : i = some .setOrder) : Changes i s s.runSetOrder := by
  simp only [State.runSetOrder]
  split
  · next hnodup => exact .trans (.single (.order _ hnodup hi)) (changes_complete i _ _ _)
  · exact changes_complete i s _ _

theorem changes_runHold : Changes i s s.runHold := by
  unfold State.runHold
  split
  · split
    · exact .single (.unit _ s.arb.origin s.arb.turn .held nofun)
    · exact .single (.unit _ s.arb.origin s.arb.turn .holding nofun)
  · exact changes_complete i s _ _
  · exact changes_complete i s _ _

theorem changes_runResume (hi : i = some .resume) : Changes i s s.runResume := by
  unfold State.runResume
  split
  · refine .trans (.trans ?_ (changes_complete i _ .ok 0)) (changes_choose i _)
    exact .single (.run hi)
  · exact changes_complete i s _ _
  · exact changes_complete i s _ _

theorem changes_runTakeAttention : Changes i s s.runTakeAttention := by
  simp only [State.runTakeAttention]
  split
  · exact changes_complete i s _ _
  · next e rest hhead =>
    split
    · next hslot =>
      refine .trans (.trans ?_ (changes_complete i _ .ok _)) (changes_react i _ _)
      have hserve : ∀ n, e.slot = n → Changes i s { s with attention := rest, inService := s.inService.set n true } := by
        rintro _ rfl
        exact .single (.serve e rest hhead)
      exact hserve _ hslot
    · exact changes_complete i s _ _

theorem changes_runRetire : Changes i s s.runRetire := by
  simp only [State.runRetire]
  split
  · refine .trans (.trans ?_ (changes_complete i _ .ok 0)) (changes_react i _ _)
    exact .single (.retire _)
  · exact changes_complete i s _ _

theorem changes_runOpen (hi : i = some .openContext) : Changes i s s.runOpen := by
  simp only [State.runOpen]
  split
  · exact changes_complete i s _ _
  · next hclosed =>
    split
    · exact changes_complete i s _ _
    · next hcount =>
      split
      · exact changes_complete i s _ _
      · split
        · exact changes_complete i s _ _
        · next hspace =>
          have hrange : 1 ≤ s.cmd.opb.toNat ∧ s.cmd.opb.toNat ≤ 2048 := by
            simp only [Config.storeWords] at hcount
            omega
          obtain ⟨hmin, hmax⟩ := hrange
          refine .trans (.single ?_) (changes_complete i _ .ok _)
          exact .openPages (operandSlot s.cmd.opa)
            { phase := .loading, direction := operandDirection s.cmd.opa, count := s.cmd.opb.toNat, moved := 0,
              tag := operandTag s.cmd.opa, pages := s.freePages.take (pagesFor s.cmd.opb.toNat) }
            hi hclosed hmin hmax (not_lt.1 hspace) rfl

theorem changes_runArm : Changes i s s.runArm := by
  simp only [State.runArm]
  split
  · next x hx =>
    split
    · split
      · refine .trans (.trans ?_ (changes_complete i _ .ok 0)) (changes_react i _ _)
        exact changes_setTransfer i s hx .armed x.moved le_rfl
      · exact changes_complete i s _ _
    · exact changes_complete i s _ _
  · exact changes_complete i s _ _

theorem changes_runAbort : Changes i s s.runAbort := by
  simp only [State.runAbort]
  split
  · split
    · split
      · refine .trans (.trans ?_ (changes_requestBoundary i _ _)) (changes_react i _ _)
        exact (changes_execute i s).trans (changes_setAbortPending i s.execute _ true)
      · exact ((changes_halt i s _ .aborted).trans (changes_complete i _ .ok _)).trans (changes_react i _ _)
    · exact changes_complete i s _ _
  · exact changes_complete i s _ _

theorem changes_runClose (hi : i = some .close) : Changes i s s.runClose := by
  simp only [State.runClose]
  split
  · next x hx =>
    have hcloses : Changes i s ((s.closeContext (operandSlot s.cmd.opa) x).complete .ok 0) :=
      .trans (.single (.closePages _ x hi hx)) (changes_complete i _ _ _)
    split
    · exact changes_complete i s _ _
    · exact hcloses
    · split
      · exact changes_complete i s _ _
      · exact hcloses
    · split
      · exact changes_complete i s _ _
      · exact hcloses
  · exact changes_complete i s _ _

theorem changes_runNextEvent (hi : i = some .nextEvent) : Changes i s s.runNextEvent := by
  unfold State.runNextEvent
  split
  · exact changes_complete i s _ _
  · next e rest hhead =>
    split
    · exact .trans (.single (.dropEntry e rest hi hhead)) (changes_complete i _ _ _)
    · exact changes_complete i s _ _

theorem changes_runCommand (c : Command) (hi : i = some c.row) : Changes i s (s.runCommand c) := by
  cases c with
  | setMode => exact changes_runSetMode i s hi
  | setOrder => exact changes_runSetOrder i s hi
  | hold => exact changes_runHold i s
  | resume => exact changes_runResume i s hi
  | reidentify => exact changes_runReidentify i s
  | unfence => exact changes_runUnfence i s
  | takeAttention => exact changes_runTakeAttention i s
  | retire => exact changes_runRetire i s
  | openContext => exact changes_runOpen i s hi
  | arm => exact changes_runArm i s
  | abort => exact changes_runAbort i s
  | close => exact changes_runClose i s hi
  | nextEvent => exact changes_runNextEvent i s hi
  | busReset => exact (changes_busReset i s).trans (changes_execute i _)

theorem changes_writeCommand (w : Word) (hi : i = some (commandRow w)) : Changes i s (s.writeCommand w) := by
  unfold State.writeCommand
  split
  · exact .refl
  · split
    · exact .single (.outside ..)
    · split
      · next c hc =>
        exact (changes_takeWord i s w).trans (changes_runCommand i _ c (by simpa [commandRow, hc] using hi))
      · exact (changes_takeWord i s w).trans (changes_complete i _ _ _)

/-! ### The host's accesses and the replies -/

theorem changes_writeStatus (w : Word) : Changes i s (s.writeStatus w) := by
  unfold State.writeStatus
  split
  · exact .single (.outside ..)
  · exact .refl

theorem changes_writeControl (w : Word) (hi : i = some (.controlWrite w)) : Changes i s (s.writeControl w) := by
  unfold State.writeControl
  split
  · exact (Relation.ReflTransGen.single (.control w hi)).trans (changes_applyThresholds i _) |>.trans (changes_react i _ _)
  · exact .refl

theorem changes_writeTiming (w : Word) (hi : i = some (.timingWrite w)) : Changes i s (s.writeTiming w) := by
  unfold State.writeTiming
  split
  · exact .single (.timing w hi)
  · exact .refl

theorem changes_writePointer (w : Word) : Changes i s (s.writePointer w) := by
  unfold State.writePointer
  split
  · exact .single (.outside ..)
  · exact .refl

theorem changes_writeSlotSelect (w : Word) : Changes i s (s.writeSlotSelect w) := by
  unfold State.writeSlotSelect
  split
  · exact .single (.outside ..)
  · exact .refl

/-- A STORE_DATA access reaches a word of the store (R84). -/
theorem State.windowAddress_lt {s : State} {write : Bool} {a : Nat} (h : s.windowAddress write = some a) :
    a < Config.storeWords := by
  unfold State.windowAddress at h
  split at h
  · next x _ =>
    split at h
    · exact x.address_lt _ a h
    · cases h
  · cases h

theorem changes_writeStoreData (w : Word) (hi : i = some (.storeDataWrite w)) : Changes i s (s.writeStoreData w) := by
  unfold State.writeStoreData
  split
  · split
    · next a ha =>
      refine .tail (b := { s with pointer := s.pointer.advance }) ?_ (.hostWord a w (State.windowAddress_lt ha) hi)
      exact .single (.outside ..)
    · exact .single (.outside ..)
  · exact .refl

theorem changes_readStoreData : Changes i s s.readStoreData := by
  unfold State.readStoreData
  split
  · split
    · exact .single (.outside ..)
    · exact .single (.outside ..)
  · exact .single (.outside ..)

/-- A write at the address of OPA or OPB changes the command unit's operands; at any other address that has no row of its
own it changes nothing (R140, R151). -/
theorem changes_hostWrite {address : BitVec 5} (w : Word) (h : rowOf (.registerWrite address w) = .registerWrite address w) :
    Changes i s (s.hostWrite address w) := by
  have hopa : Changes i s (s.writeOpa w) := by
    unfold State.writeOpa
    split
    · exact .single (.unit _ s.arb.origin s.arb.turn s.arb.hold id)
    · exact .refl
  have hopb : Changes i s (s.writeOpb w) := by
    unfold State.writeOpb
    split
    · exact .single (.unit _ s.arb.origin s.arb.turn s.arb.hold id)
    · exact .refl
  unfold State.hostWrite
  split
  · next haddress => simp [rowOf, addressRow, haddress] at h
  · next haddress => simp [rowOf, addressRow, haddress] at h
  · next haddress => simp [rowOf, addressRow, haddress] at h
  · next haddress =>
    simp only [rowOf, addressRow, haddress] at h
    exact absurd h (commandRow_ne_registerWrite w address w)
  · exact hopa
  · exact hopb
  · next haddress => simp [rowOf, addressRow, haddress] at h
  · next haddress => simp [rowOf, addressRow, haddress] at h
  · next haddress => simp [rowOf, addressRow, haddress] at h
  · exact .refl

theorem changes_execReplyRelease {t : State} (h : execReplyRelease s = .next t) : Changes i s t := by
  have hfinished := (changes_finishWord i s).trans (changes_react i _ s)
  cases h
  split
  · next o ho => exact hfinished.trans (changes_op_same i _ ho id rfl)
  · exact hfinished

theorem changes_execReplyTaken (lines : BitVec 2) (data : Word) (parity : BitVec 2)
    (hi : i = some (.replyTaken lines data parity)) {t : State} (h : execReplyTaken lines data parity s = .next t) :
    Changes i s t := by
  cases h
  split
  · next o r ho _ =>
    have htaken := changes_takeReply i s ⟨lines, data, parity, hi⟩ ho ⟨r, data, parityGood data parity⟩
    split
    · simp only []
      split
      · exact htaken
      · exact (htaken.trans (changes_finishWord i _)).trans (changes_react i _ _)
    · exact .refl
  · exact .refl

theorem changes_execResponseWindowExpiry {t : State} (h : execResponseWindowExpiry s = .next t) : Changes i s t := by
  cases h
  split
  · next o ho =>
    have htimeout := (changes_timeout i s ho).trans (changes_react i _ s)
    split
    · exact .refl
    · exact .refl
    · exact htimeout
    · exact htimeout
  · exact .refl

end

/-! ## Every command and every step -/

/-- A row's effect is a chain of the changes that the row allows. -/
theorem changes_of_row {i : Instr} {s t : State} (hrow : rowOf i = i) (h : exec i s = .next t) : Changes (some i) s t := by
  have hcommand : ∀ c : Command, i = c.row → Changes (some i) s t := by
    rintro c rfl
    rw [exec_command_row] at h
    cases h
    refine changes_writeCommand _ s c.code ?_
    simp [commandRow, commandOf_code]
  cases i with
  | pinReset => cases h; exact .single (.pinReset rfl)
  | rstinRelease => cases h; exact changes_release _ s
  | startingEnd => cases h; exact changes_endStarting _ s rfl
  | seatActive n => cases h; exact changes_seatActive _ s n
  | seatInactiveSettling n => cases h; exact changes_seatInactive _ s n
  | removal n => cases h; exact changes_seatInactive _ s n
  | settleTimerExpiry n => cases h; exact changes_settleExpiry _ s n
  | areqActive n active => cases h; exact .trans (.single (.outside ..)) (changes_react _ _ s)
  | treqActive n active => cases h; exact .trans (.single (.outside ..)) (changes_react _ _ s)
  | replyRelease => exact changes_execReplyRelease _ s h
  | replyTaken lines data parity => exact changes_execReplyTaken _ s lines data parity rfl h
  | responseWindowExpiry => exact changes_execResponseWindowExpiry _ s h
  | clearEnd => cases h; exact changes_endClear _ s
  | controlWrite w => cases h; exact changes_writeControl _ s w rfl
  | timingWrite w => cases h; exact changes_writeTiming _ s w rfl
  | statusWrite w => cases h; exact changes_writeStatus _ s w
  | storePointerWrite w => cases h; exact changes_writePointer _ s w
  | storeDataRead => cases h; exact changes_readStoreData _ s
  | storeDataWrite w => cases h; exact changes_writeStoreData _ s w rfl
  | slotSelectWrite w => cases h; exact changes_writeSlotSelect _ s w
  | registerWrite address w => cases h; exact changes_hostWrite _ s w hrow
  | unknownCommand w => cases h; exact changes_writeCommand _ s w (congrArg some hrow.symm)
  | setMode => exact hcommand .setMode rfl
  | reidentify => exact hcommand .reidentify rfl
  | setOrder => exact hcommand .setOrder rfl
  | hold => exact hcommand .hold rfl
  | resume => exact hcommand .resume rfl
  | takeAttention => exact hcommand .takeAttention rfl
  | retire => exact hcommand .retire rfl
  | openContext => exact hcommand .openContext rfl
  | arm => exact hcommand .arm rfl
  | abort => exact hcommand .abort rfl
  | close => exact hcommand .close rfl
  | unfence => exact hcommand .unfence rfl
  | nextEvent => exact hcommand .nextEvent rfl
  | busReset => exact hcommand .busReset rfl

theorem exec_changes {i : Instr} {s t : State} (h : exec i s = .next t) : Changes (some (rowOf i)) s t :=
  changes_of_row (rowOf_rowOf i) (by rw [exec_rowOf]; exact h)

/-- A step is a chain of changes from the state with what is left of the queue. -/
theorem step_changes {s t : State} (h : step s = .next t) : ∃ i rest, Changes i { s with pending := rest } t := by
  unfold step at h
  split at h
  · next j rest _ => exact ⟨_, rest, exec_changes h⟩
  · cases h
    exact ⟨none, s.pending, changes_idle none s⟩

/-- What each elementary change keeps, a chain of them keeps. -/
theorem changes_preserve {i : Option Instr} {P : State → Prop} (hP : ∀ s t, Change i s t → P s → P t) {s t : State}
    (h : Changes i s t) (hs : P s) : P t := by
  induction h with
  | refl => exact hs
  | tail _ hchange ih => exact hP _ _ hchange ih

/-- A field that each elementary change leaves, or that a command may change, a chain leaves or the command may change. -/
theorem changes_leave {i : Option Instr} {α : Type} {f : State → α} {p : Prop}
    (hf : ∀ s t, Change i s t → f t = f s ∨ p) {s t : State} (h : Changes i s t) : f t = f s ∨ p :=
  changes_preserve (P := fun u => f u = f s ∨ p)
    (fun u v hchange hu => hu.elim (fun heq => (hf u v hchange).imp_left (·.trans heq)) .inr) h (.inl rfl)

/-- A law that does not look at the queue and that each elementary change keeps is kept by every step. -/
theorem step_preserves {P : State → Prop} (hqueue : ∀ s rest, P s → P { s with pending := rest })
    (hP : ∀ i s t, Change i s t → P s → P t) {s t : State} (hs : P s) (h : step s = .next t) : P t := by
  obtain ⟨i, rest, hchanges⟩ := step_changes h
  exact changes_preserve (hP i) hchanges (hqueue s rest hs)

end Sys2Proof.Machine
end

section
/-! SUPPORT. The laws over all commands: the queue, the store's form, the register ranges, the page lists, the attention
standing, the settings, the writers of the store and the places of event entries (R43, R61, R62, R76, R78, R79, R92, R93,
R116, R128 to R133, R144, R145). -/

namespace Sys2Proof.Machine

/-! ## The queue -/

/-- Every command answers a next state (log 23). -/
theorem exec_total (i : Instr) (s : State) : ∃ t, exec i s = .next t := by
  cases i <;> exact ⟨_, rfl⟩

theorem Change.queue {i : Option Instr} {s t : State} (h : Change i s t) :
    (t.pending, t.releaseHeld) = (s.pending, s.releaseHeld) := by
  cases h <;> rfl

/-- Settles O3: no elementary change touches the queue or whether releases are held. -/
theorem everyCommandAnswersANextStateAndLeavesTheQueue :
    Obligations.EveryCommandAnswersANextStateAndLeavesTheQueue := by
  intro i s
  obtain ⟨t, ht⟩ := exec_total i s
  have hqueue := changes_leave (f := fun u : State => (u.pending, u.releaseHeld)) (p := False)
    (fun _ _ hchange => .inl hchange.queue) (exec_changes ht)
  obtain ⟨hpending, hheld⟩ := Prod.mk.inj (hqueue.resolve_right id)
  exact ⟨t, ht, hpending, hheld⟩

/-! ## The store's form -/

theorem Change.storeLaw {i : Option Instr} {s t : State} (h : Change i s t) (hs : s.storeLaw) : t.storeLaw := by
  cases h with
  | storeWord a v ha _ => exact Memory.write_wf s.store a v ha hs
  | hostWord a v ha _ => exact Memory.write_wf s.store a v ha hs
  | clearStore _ => exact Memory.nil_wf
  | _ => exact hs

/-- Settles O5: the store changes by a word written at an address in it, or is cleared. -/
theorem stepKeepsTheStoreForm : Obligations.StepKeepsTheStoreForm := fun _ _ hs hstep =>
  step_preserves (fun _ _ h => h) (fun _ _ _ hchange => hchange.storeLaw) hs hstep

/-! ## Register ranges -/

/-- CONTROL as taken from a word is in range (R144). -/
theorem controlOfWord_range (w : Word) :
    (1 ≤ (controlOfWord w).threshold ∧ (controlOfWord w).threshold ≤ 15) ∧
      1 ≤ (controlOfWord w).depth ∧ (controlOfWord w).depth ≤ 8 := by
  have hthreshold := (w.extractLsb' 8 4).isLt
  simp only [controlOfWord]
  omega

/-- TIMING as taken from a word is in range (R145). -/
theorem timingOfWord_range (w : Word) :
    (1 ≤ (timingOfWord w).settleTime ∧ (timingOfWord w).settleTime ≤ 255) ∧
      1 ≤ (timingOfWord w).responseWindow ∧ (timingOfWord w).responseWindow ≤ 63 := by
  have hsettle := (w.extractLsb' 8 8).isLt
  have hwindow := (w.extractLsb' 0 6).isLt
  simp only [timingOfWord]
  omega

/-- The part in pin reset meets the register law, whatever it kept (R42, R144, R145). -/
theorem State.registerLaw_pinReset (s : State) : s.pinReset.registerLaw := by
  have hreset : State.reset.registerLaw := by decide
  exact hreset

theorem Change.registerLaw {i : Option Instr} {s t : State} (h : Change i s t) (hs : s.registerLaw) : t.registerLaw := by
  obtain ⟨hthreshold, hdepth, hsettle, hwindow, horder, hcount⟩ := hs
  cases h with
  | records slots hslots =>
    exact ⟨hthreshold, hdepth, hsettle, hwindow, horder, fun n => (hslots n).2.trans (max_le le_rfl (hcount n))⟩
  | control w _ =>
    obtain ⟨hthreshold', hdepth'⟩ := controlOfWord_range w
    exact ⟨hthreshold', hdepth', hsettle, hwindow, horder, hcount⟩
  | timing w _ =>
    obtain ⟨hsettle', hwindow'⟩ := timingOfWord_range w
    exact ⟨hthreshold, hdepth, hsettle', hwindow', horder, hcount⟩
  | mode n m _ =>
    refine ⟨hthreshold, hdepth, hsettle, hwindow, horder, fun k => ?_⟩
    rw [State.slot_setSlot]
    split
    · exact hcount n
    · exact hcount k
  | order order hnodup _ => exact ⟨hthreshold, hdepth, hsettle, hwindow, hnodup, hcount⟩
  | pinReset _ => exact s.registerLaw_pinReset
  | _ => exact ⟨hthreshold, hdepth, hsettle, hwindow, horder, hcount⟩

/-- Settles O6: the fields are taken in range from a word written, the list is replaced by a permutation, a count is
raised to 15 at most. -/
theorem stepKeepsRegisterRanges : Obligations.StepKeepsRegisterRanges := fun _ _ hs hstep =>
  step_preserves (fun _ _ h => h) (fun _ _ _ hchange => hchange.registerLaw) hs hstep

/-! ## Page lists -/

/-- The page list of a context (R92). -/
def Context.pages (c : Context) : List Page :=
  match c.transfer with
  | some x => x.pages
  | none => []

theorem State.heldPages_eq (s : State) (n : Slot) : s.heldPages n = (s.context n).pages := rfl

/-- A context that goes on holds the same pages (R92). -/
theorem Context.continues.pages_eq {c d : Context} (h : c.continues d) : d.pages = c.pages := by
  rcases hc : c.transfer with _ | x
  · simp [Context.pages, hc, h.closed hc]
  · obtain ⟨y, hy, -, -, -, hpages, -⟩ := h.isOpen x hc
    simp [Context.pages, hc, hy, hpages]

/-- The pages that all slots hold, once one slot's context is replaced: those of the other slots beside its new ones. -/
theorem flatMap_pages_set (s : State) (n : Slot) (c : Context) :
    (allSlots.flatMap fun m => (s.setContext n c).heldPages m).Perm
      (c.pages ++ (allSlots.erase n).flatMap s.heldPages) := by
  have hfront : allSlots.Perm (n :: allSlots.erase n) := List.perm_cons_erase (mem_allSlots n)
  refine (hfront.flatMap_right _).trans (.of_eq ?_)
  rw [List.flatMap_cons]
  congr 1
  · simp [State.heldPages_eq]
  · refine List.flatMap_congr fun m hm => ?_
    have hne : n ≠ m := fun e => by
      subst e
      exact absurd hm (by revert n; decide)
    simp [State.heldPages_eq, hne]

/-- The pages that all slots hold: those of one slot and those of the others. -/
theorem flatMap_pages (s : State) (n : Slot) :
    (allSlots.flatMap s.heldPages).Perm (s.heldPages n ++ (allSlots.erase n).flatMap s.heldPages) :=
  (List.perm_cons_erase (mem_allSlots n)).flatMap_right _

/-- What the law of R79 says of an open context alone (R92, R94). -/
abbrev Transfer.pageCount (x : Transfer) : Prop :=
  1 ≤ x.count ∧ x.count ≤ 2048 ∧ x.pages.length = (x.count + 31) / 32

/-- One context and the free page list change by moving pages between the two (R80, R82). -/
theorem State.pageLaw_setContext {s : State} (h : s.pageLaw) (n : Slot) (c : Context) (free : List Page)
    (hmoved : (free ++ c.pages).Perm (s.freePages ++ s.heldPages n)) (hc : ∀ x ∈ c.transfer, x.pageCount) :
    State.pageLaw { s with freePages := free, contexts := s.contexts.set n c } := by
  obtain ⟨hperm, hcount⟩ := h
  refine ⟨?_, fun m x hx => ?_⟩
  · have hset := (flatMap_pages_set s n c).append_left free
    have hswap := hmoved.append_right ((allSlots.erase n).flatMap s.heldPages)
    have hback := ((flatMap_pages s n).append_left s.freePages).symm
    simp only [List.append_assoc] at hswap
    exact ((hset.trans hswap).trans hback).trans hperm
  · have hx' : x ∈ ((s.setContext n c).context m).transfer := hx
    rw [State.context_setContext] at hx'
    split at hx'
    · exact hc x hx'
    · exact hcount m x hx'

/-- Every page is free and every context CLOSED at pin reset (R78, R92). -/
theorem State.pageLaw_pinReset (s : State) : s.pinReset.pageLaw := by
  have hclosed : ∀ n, (State.reset.context n).transfer = none := by decide
  have hheld : allSlots.flatMap State.reset.heldPages = [] := by decide
  refine ⟨.of_eq (congrArg (allPages ++ ·) hheld |>.trans (List.append_nil _)), fun n x hx => ?_⟩
  cases (hclosed n).symm.trans hx

theorem Change.pageLaw {i : Option Instr} {s t : State} (h : Change i s t) (hs : s.pageLaw) : t.pageLaw := by
  cases h with
  | context n c hc =>
    refine State.pageLaw_setContext hs n c s.freePages (.of_eq (by rw [hc.pages_eq, State.heldPages_eq])) fun x hx => ?_
    obtain ⟨w, hw⟩ := Option.ne_none_iff_exists'.1 fun hnone => nomatch (hc.closed hnone).symm.trans hx
    obtain ⟨y, hy, -, hcount, -, hpages, -⟩ := hc.isOpen w hw
    obtain rfl : x = y := Option.some.inj (hx.symm.trans hy)
    have hlaw : w.pageCount := hs.2 n w hw
    rwa [Transfer.pageCount, ← hcount, ← hpages] at hlaw
  | openPages n x _ hclosed hmin hmax hspace hpages =>
    have hheld : s.heldPages n = [] := by simp [State.heldPages, hclosed]
    refine State.pageLaw_setContext hs n _ _ ?_ ?_
    · rw [hheld, List.append_nil, Context.pages]
      simp only [hpages]
      exact List.perm_append_comm.trans (.of_eq (List.take_append_drop _ _))
    · rintro _ ⟨⟩
      exact ⟨hmin, hmax, by rw [hpages, List.length_take, min_eq_left hspace]; rfl⟩
  | closePages n x _ hopen =>
    have hheld : s.heldPages n = x.pages := State.heldPages_of_transfer hopen
    exact State.pageLaw_setContext hs n _ _ (.of_eq (by rw [hheld, Context.pages]; simp)) nofun
  | pinReset _ => exact s.pageLaw_pinReset
  | _ => exact hs

/-- Settles O7: a page moves only from the free page list to the context that OPEN opens, and back with CLOSE. -/
theorem stepKeepsEveryPageOnOneList : Obligations.StepKeepsEveryPageOnOneList := fun _ _ hs hstep =>
  step_preserves (fun _ _ h => h) (fun _ _ _ hchange => hchange.pageLaw) hs hstep

/-! ## Attention standing -/

/-- The attention law without the ACKNOWLEDGE in flight (R61, R62). -/
abbrev State.standingLaw (s : State) : Prop :=
  s.control.depth ≤ 8 ∧ (s.attention.map AttentionEntry.slot).Nodup ∧ (∀ e ∈ s.attention, s.inService[e.slot] = false) ∧
    s.attention.length ≤ 8

/-- A slot that stands NONE, with room in the queue for its entry (R61, R62). -/
abbrev State.standsNone (s : State) (n : Slot) : Prop :=
  s.queued n = false ∧ s.inService[n] = false ∧ s.attention.length < 8

theorem State.attentionLaw_iff (s : State) :
    s.attentionLaw ↔ s.standingLaw ∧ ∀ o ∈ s.op, o.kind = .acknowledge → s.standsNone o.slot := by
  simp only [State.attentionLaw, State.standingLaw, State.standsNone, and_assoc]

/-- The slot of an ACKNOWLEDGE that is chosen stands NONE with room in the queue (R46). -/
theorem State.standsNone_of_eligible {s : State} (hs : s.standingLaw) {n : Slot} (h : s.attentionEligible n = true) :
    s.standsNone n := by
  obtain ⟨-, -, -, -, hqueued, hservice, hroom⟩ := (s.attentionEligible_iff n).1 h
  exact ⟨hqueued, hservice, hroom.trans_le hs.1⟩

/-- The entry of a slot that stands NONE joins the queue (R61, R64). -/
theorem State.standingLaw_append {s : State} (hs : s.standingLaw) {e : AttentionEntry} (h : s.standsNone e.slot) :
    State.standingLaw { s with attention := s.attention ++ [e] } := by
  obtain ⟨hdepth, hnodup, hservice, hlen⟩ := hs
  obtain ⟨hqueued, hout, hroom⟩ := h
  refine ⟨hdepth, ?_, fun e' he' => ?_, by simpa using hroom⟩
  · have hnew : ∀ e' ∈ s.attention, e'.slot ≠ e.slot := (s.queued_eq_false_iff e.slot).1 hqueued
    simpa [List.nodup_append, hnodup] using hnew
  · obtain hold | hnew := List.mem_append.1 he'
    · exact hservice e' hold
    · exact List.mem_singleton.1 hnew ▸ hout

/-- Fewer entries, no slot entering service (R61). -/
theorem State.standingLaw_sublist {s : State} (hs : s.standingLaw) {entries : List AttentionEntry}
    {inService : Vector Bool 8} (hsub : entries.Sublist s.attention)
    (hout : ∀ n : Slot, inService[n] = true → s.inService[n] = true) :
    State.standingLaw { s with attention := entries, inService := inService } := by
  obtain ⟨hdepth, hnodup, hservice, hlen⟩ := hs
  refine ⟨hdepth, hnodup.sublist (hsub.map _), fun e he => ?_, hsub.length_le.trans hlen⟩
  have hfree := hservice e (hsub.subset he)
  exact Bool.eq_false_iff.2 fun hin => by simp [hout _ hin] at hfree

theorem State.standsNone_sublist {s : State} {n : Slot} (hs : s.standsNone n) {entries : List AttentionEntry}
    {inService : Vector Bool 8} (hsub : entries.Sublist s.attention)
    (hout : ∀ m : Slot, inService[m] = true → s.inService[m] = true) :
    State.standsNone { s with attention := entries, inService := inService } n := by
  obtain ⟨hqueued, hservice, hroom⟩ := hs
  refine ⟨?_, Bool.eq_false_iff.2 fun hin => by simp [hout _ hin] at hservice, hsub.length_le.trans_lt hroom⟩
  exact (State.queued_eq_false_iff _ n).2 fun e he => (s.queued_eq_false_iff n).1 hqueued e (hsub.subset he)

/-- Entries and places in service only go (R61). -/
theorem State.attentionLaw_sublist {s : State} (hs : s.attentionLaw) {entries : List AttentionEntry}
    {inService : Vector Bool 8} (hsub : entries.Sublist s.attention)
    (hout : ∀ m : Slot, inService[m] = true → s.inService[m] = true) :
    State.attentionLaw { s with attention := entries, inService := inService } := by
  obtain ⟨hstanding, hop⟩ := s.attentionLaw_iff.1 hs
  exact (State.attentionLaw_iff _).2 ⟨State.standingLaw_sublist hstanding hsub hout,
    fun o ho hk => State.standsNone_sublist (hop o ho hk) hsub hout⟩

/-- The head of the queue goes into service (R68). -/
theorem State.attentionLaw_serve {s : State} (hs : s.attentionLaw) {e : AttentionEntry} {rest : List AttentionEntry}
    (hhead : s.attention = e :: rest) :
    State.attentionLaw { s with attention := rest, inService := s.inService.set e.slot true } := by
  obtain ⟨⟨hdepth, hnodup, hservice, hlen⟩, hop⟩ := s.attentionLaw_iff.1 hs
  simp only [hhead, List.map_cons, List.nodup_cons, List.length_cons] at hnodup hlen
  obtain ⟨hnew, hrest⟩ := hnodup
  have hstays : ∀ n : Slot, n ≠ e.slot → s.inService[n] = false → (s.inService.set e.slot true)[n] = false :=
    fun n hn hout => (vector_get_set _ _ _ _).trans ((if_neg hn.symm).trans hout)
  refine (State.attentionLaw_iff _).2 ⟨⟨hdepth, hrest, fun e' he' => ?_, by dsimp only; omega⟩, fun o ho hk => ?_⟩
  · have hne : e'.slot ≠ e.slot := fun heq => hnew (heq ▸ List.mem_map_of_mem he')
    exact hstays _ hne (hservice e' (hhead ▸ List.mem_cons_of_mem e he'))
  · obtain ⟨hqueued, hout, hroom⟩ := hop o ho hk
    have hothers := (s.queued_eq_false_iff o.slot).1 hqueued
    rw [hhead] at hothers hroom
    exact ⟨(State.queued_eq_false_iff _ _).2 fun e' he' => hothers e' (List.mem_cons_of_mem e he'),
      hstays _ (hothers e List.mem_cons_self).symm hout, (Nat.lt_succ_self _).trans hroom⟩

theorem Change.attentionLaw {i : Option Instr} {s t : State} (h : Change i s t) (hs : s.attentionLaw) :
    t.attentionLaw := by
  obtain ⟨hstanding, hop⟩ := s.attentionLaw_iff.1 hs
  have hleaves : ∀ (n m : Slot), (s.inService.set n false)[m] = true → s.inService[m] = true := by
    intro n m hm
    rw [vector_get_set] at hm
    split at hm
    · cases hm
    · exact hm
  cases h with
  | operation op hack =>
    refine (State.attentionLaw_iff _).2 ⟨hstanding, fun o ho hk => ?_⟩
    obtain heligible | ⟨p, hp, hpk, hslot⟩ := hack o ho hk
    · exact State.standsNone_of_eligible hstanding heligible
    · exact hslot ▸ hop p hp hpk
  | vector o ho hk service vector =>
    exact (State.attentionLaw_iff _).2 ⟨State.standingLaw_append hstanding (hop o ho hk), nofun⟩
  | purge n => exact State.attentionLaw_sublist hs List.filter_sublist (hleaves n)
  | noAttention => exact State.attentionLaw_sublist hs (List.nil_sublist _) fun m hm => by simp at hm
  | control w _ => exact ⟨(controlOfWord_range w).2.2, hs.2⟩
  | serve e rest hhead => exact State.attentionLaw_serve hs hhead
  | retire n => exact State.attentionLaw_sublist hs (List.Sublist.refl _) (hleaves n)
  | pinReset _ =>
    have hreset : State.reset.attentionLaw := by decide
    exact hreset
  | _ => exact hs

/-- Settles O9: an entry joins the queue for the slot of an ACKNOWLEDGE in flight, which has stood NONE since it was
chosen, and otherwise entries only go, the head of the queue into service. -/
theorem stepKeepsAttentionStanding : Obligations.StepKeepsAttentionStanding := fun _ _ hs hstep =>
  step_preserves (fun _ _ h => h) (fun _ _ _ hchange => hchange.attentionLaw) hs hstep

end Sys2Proof.Machine
end

section
/-! SUPPORT. The rules over all commands: which command changes a setting or a context's fixed fields, what writes a store
word, and the places of event entries (R17, R43, R76, R78, R92, R93, R129 to R133, R144, R145). -/

namespace Sys2Proof.Machine

/-! ## Settings -/

section

variable {i : Option Instr} {s t : State}

theorem Change.freePages (h : Change i s t) :
    t.freePages = s.freePages ∨ i = some .openContext ∨ i = some .close ∨ i = some .pinReset := by
  cases h with
  | openPages _ _ hi => exact .inr (.inl hi)
  | closePages _ _ hi => exact .inr (.inr (.inl hi))
  | pinReset hi => exact .inr (.inr (.inr hi))
  | _ => exact .inl rfl

theorem Change.order_eq (h : Change i s t) :
    t.arb.order = s.arb.order ∨ i = some .setOrder ∨ i = some .pinReset := by
  cases h with
  | order _ _ hi => exact .inr (.inl hi)
  | pinReset hi => exact .inr (.inr hi)
  | _ => exact .inl rfl

theorem Change.control_eq (h : Change i s t) :
    t.control = s.control ∨ (∃ w, i = some (.controlWrite w)) ∨ i = some .pinReset := by
  cases h with
  | control w hi => exact .inr (.inl ⟨w, hi⟩)
  | pinReset hi => exact .inr (.inr hi)
  | _ => exact .inl rfl

theorem Change.timing_eq (h : Change i s t) :
    t.timing = s.timing ∨ (∃ w, i = some (.timingWrite w)) ∨ i = some .pinReset := by
  cases h with
  | timing w hi => exact .inr (.inl ⟨w, hi⟩)
  | pinReset hi => exact .inr (.inr hi)
  | _ => exact .inl rfl

theorem Change.mode_eq (h : Change i s t) (n : Slot) :
    (t.slot n).mode = (s.slot n).mode ∨ i = some .setMode ∨ i = some .pinReset := by
  cases h with
  | records slots hslots => exact .inl (hslots n).1
  | mode m _ hi => exact .inr (.inl hi)
  | pinReset hi => exact .inr (.inr hi)
  | _ => exact .inl rfl

/-! ## Contexts -/

/-- A context stays CLOSED but for OPEN (R92, R94). -/
theorem Change.stays_closed (h : Change i s t) (hreset : i ≠ some .pinReset) (hopen : i ≠ some .openContext) (n : Slot)
    (hs : (s.context n).transfer = none) : (t.context n).transfer = none := by
  cases h with
  | context m c hc =>
    show (State.context (s.setContext m c) n).transfer = none
    rw [State.context_setContext]
    split
    · next e => exact hc.closed (e ▸ hs)
    · exact hs
  | openPages _ _ hi => exact absurd hi hopen
  | closePages m x =>
    show (State.context (s.setContext m _) n).transfer = none
    rw [State.context_setContext]
    split
    · rfl
    · exact hs
  | pinReset hi => exact absurd hi hreset
  | _ => exact hs

/-- An open context holds what is fixed from OPEN to CLOSE, and has moved no fewer words (R92, R93). -/
def State.carries (s : State) (n : Slot) (x : Transfer) : Prop :=
  ∃ y, (s.context n).transfer = some y ∧ y.direction = x.direction ∧ y.count = x.count ∧ y.tag = x.tag ∧
    y.pages = x.pages ∧ x.moved ≤ y.moved

/-- A context goes on carrying its transfer but for CLOSE (R92, R93). -/
theorem Change.stays_open (h : Change i s t) (hreset : i ≠ some .pinReset) (hclose : i ≠ some .close) (n : Slot)
    (x : Transfer) (hs : s.carries n x) : t.carries n x := by
  obtain ⟨y, hy, hdirection, hcount, htag, hpages, hmoved⟩ := hs
  cases h with
  | context m c hc =>
    show State.carries (s.setContext m c) n x
    unfold State.carries
    rw [State.context_setContext]
    split
    · next e =>
      subst e
      obtain ⟨z, hz, hdirection', hcount', htag', hpages', hmoved'⟩ := hc.isOpen y hy
      exact ⟨z, hz, hdirection'.trans hdirection, hcount'.trans hcount, htag'.trans htag, hpages'.trans hpages,
        hmoved.trans hmoved'⟩
    · exact ⟨y, hy, hdirection, hcount, htag, hpages, hmoved⟩
  | openPages m z _ hclosed =>
    have hne : m ≠ n := by
      rintro rfl
      exact nomatch hclosed.symm.trans hy
    refine ⟨y, ?_, hdirection, hcount, htag, hpages, hmoved⟩
    show (State.context (s.setContext m _) n).transfer = some y
    rw [State.context_setContext, if_neg hne, hy]
  | closePages _ _ hi => exact absurd hi hclose
  | pinReset hi => exact absurd hi hreset
  | _ => exact ⟨y, hy, hdirection, hcount, htag, hpages, hmoved⟩

end

/-- Settles O12: each setting by the elementary changes that set it. -/
theorem settingsChangeOnlyByTheirCommands : Obligations.SettingsChangeOnlyByTheirCommands := by
  intro i s t hwf h
  have hchanges : Changes (some i) s t := by simpa only [rowOf_of_wellFormed hwf] using exec_changes h
  refine ⟨fun hne => ?freePages, fun hne => ?order, fun hne => ?control, fun hne => ?timing, fun n hne => ?mode,
    fun n hreset => ⟨fun hclosed hopen => ?closed, fun x hx hclose => ?opened⟩⟩
  case freePages => simpa using (changes_leave (fun _ _ hc => hc.freePages) hchanges).resolve_left hne
  case order =>
    simpa using (changes_leave (f := fun u => u.arb.order) (fun _ _ hc => hc.order_eq) hchanges).resolve_left hne
  case control => simpa using (changes_leave (fun _ _ hc => hc.control_eq) hchanges).resolve_left hne
  case timing => simpa using (changes_leave (fun _ _ hc => hc.timing_eq) hchanges).resolve_left hne
  case mode =>
    simpa using
      (changes_leave (f := fun u => (u.slot n).mode) (fun _ _ hc => hc.mode_eq n) hchanges).resolve_left hne
  case closed =>
    exact changes_preserve (P := fun u => (u.context n).transfer = none)
      (fun _ _ hc => hc.stays_closed (by simpa using hreset) (by simpa using hopen) n) hchanges hclosed
  case opened =>
    exact changes_preserve (fun _ _ hc => hc.stays_open (by simpa using hreset) (by simpa using hclose) n x) hchanges
      ⟨x, hx, rfl, rfl, rfl, rfl, le_rfl⟩

/-! ## Event entries -/

/-- What an event entry may become: a SEAT-class entry takes further changes of its slot, up to 15 (R130, R131). -/
def Event.grows (e e' : Event) : Prop :=
  e' = e ∨ ∃ n c k c' k', e = .seat n c k ∧ e' = .seat n c' k' ∧ k' ≤ 15 ∧ (k < k' ∨ k' = 15)

theorem Event.grows_refl (e : Event) : e.grows e := .inl rfl

theorem Event.grows_trans {e e' e'' : Event} (h : e.grows e') (h' : e'.grows e'') : e.grows e'' := by
  rcases h with rfl | ⟨n, c, k, c', k', rfl, rfl, hmax, hk⟩
  · exact h'
  · rcases h' with rfl | ⟨n', c₁, k₁, c'', k'', heq, rfl, hmax', hk'⟩
    · exact .inr ⟨n, c, k, c', k', rfl, rfl, hmax, hk⟩
    · cases heq
      exact .inr ⟨n, c, k, c'', k'', rfl, rfl, hmax', by omega⟩

/-- The entries of a queue keep their places in another, each as it was or grown, with new entries behind them. -/
def entriesKept (es fs : List Event) : Prop := ∃ kept new, fs = kept ++ new ∧ List.Forall₂ Event.grows es kept

theorem entriesKept_refl (es : List Event) : entriesKept es es :=
  ⟨es, [], by simp, List.forall₂_same.2 fun e _ => e.grows_refl⟩

theorem entriesKept_cons {e e' : Event} {es fs : List Event} (he : e.grows e') (h : entriesKept es fs) :
    entriesKept (e :: es) (e' :: fs) := by
  obtain ⟨kept, new, rfl, hkept⟩ := h
  exact ⟨e' :: kept, new, rfl, .cons he hkept⟩

theorem entriesKept_nil (fs : List Event) : entriesKept [] fs := ⟨[], fs, rfl, .nil⟩

theorem entriesKept_trans {es fs gs : List Event} (h : entriesKept es fs) (h' : entriesKept fs gs) :
    entriesKept es gs := by
  induction es generalizing fs gs with
  | nil => exact entriesKept_nil gs
  | cons e es ih =>
    obtain ⟨_, new, rfl, _ | ⟨he, hes⟩⟩ := h
    obtain ⟨_, new', rfl, _ | ⟨he', hes'⟩⟩ := h'
    exact entriesKept_cons (Event.grows_trans he he') (ih ⟨_, new, rfl, hes⟩ ⟨_, new', rfl, hes'⟩)

theorem entriesKept_append (es fs : List Event) : entriesKept es (es ++ fs) :=
  ⟨es, fs, rfl, List.forall₂_same.2 fun e _ => e.grows_refl⟩

/-- A SEAT-class change keeps every entry in its place (R129 to R131). -/
theorem entriesKept_insertSeat (n : Slot) (change : SeatChange) (es : List Event) :
    entriesKept es (insertSeat n change es) := by
  induction es with
  | nil => exact entriesKept_nil _
  | cons e es ih =>
    cases e with
    | seat m old k =>
      by_cases h : m = n
      · subst h
        simp only [insertSeat, if_true]
        refine entriesKept_cons (.inr ⟨m, old, k, change, _, rfl, rfl, min_le_left _ _, ?_⟩) (entriesKept_refl es)
        unfold Config.maxChanges
        omega
      · simp only [insertSeat, h, if_false]
        exact entriesKept_cons (Event.grows_refl _) ih
    | transfer m ending tag direction words => exact entriesKept_cons (Event.grows_refl _) ih

theorem Change.entriesKept {i : Option Instr} {s t : State} (h : Change i s t) (hnext : i ≠ some .nextEvent)
    (hreset : i ≠ some .pinReset) : entriesKept s.events t.events := by
  cases h with
  | seatEntry n change => exact entriesKept_insertSeat n change s.events
  | transferEntry => exact entriesKept_append _ _
  | dropEntry _ _ hi => exact absurd hi hnext
  | pinReset hi => exact absurd hi hreset
  | _ => exact entriesKept_refl _

/-- A SEAT-class change of a slot with no entry of that class behind the entries given (R129). -/
theorem insertSeat_append_of_not_mem {n : Slot} {before : List Event} (h : ∀ c k, Event.seat n c k ∉ before)
    (change : SeatChange) (after : List Event) :
    insertSeat n change (before ++ after) = before ++ insertSeat n change after := by
  induction before with
  | nil => rfl
  | cons e es ih =>
    have hes := ih fun c k hmem => h c k (List.mem_cons_of_mem e hmem)
    cases e with
    | seat m c k =>
      have hne : m ≠ n := fun heq => h c k (heq ▸ List.mem_cons_self)
      simp only [List.cons_append, insertSeat, if_neg hne, hes]
    | transfer m ending tag direction words => simp only [List.cons_append, insertSeat, hes]

/-- Settles O14: each elementary change but that of NEXT EVENT and pin reset keeps the entries in their places. -/
theorem entriesKeepTheirPlaces : Obligations.EntriesKeepTheirPlaces := by
  refine ⟨fun i s t hwf hnext hreset h => ?kept, fun n change => ⟨fun events hnone => ?new,
    fun before after old k hnone => ?coalesced⟩⟩
  case kept =>
    have hchanges : Changes (some i) s t := by simpa only [rowOf_of_wellFormed hwf] using exec_changes h
    obtain ⟨kept, new, heq, hkept⟩ : entriesKept s.events t.events :=
      changes_preserve (P := fun u => entriesKept s.events u.events)
        (fun _ _ hc hu => entriesKept_trans hu (hc.entriesKept (by simpa using hnext) (by simpa using hreset)))
        hchanges (entriesKept_refl _)
    refine ⟨kept, new, heq, hkept.imp fun e e' he => he.imp_right ?_⟩
    rintro ⟨m, c, k, c', k', he, he', -, hk⟩
    exact ⟨m, c, k, c', k', he, he', hk⟩
  case new => simpa [insertSeat] using insertSeat_append_of_not_mem hnone change []
  case coalesced =>
    have hcount : min Config.maxChanges (k + 1) = if k < 15 then k + 1 else 15 := by
      unfold Config.maxChanges
      split <;> omega
    rw [insertSeat_append_of_not_mem hnone, insertSeat, if_pos rfl, hcount]

/-! ## Store words -/

theorem Change.store_eq {i : Option Instr} {s t : State} (h : Change i s t) :
    t.store = s.store ∨ i = some .startingEnd ∨ (∃ w, i = some (.storeDataWrite w)) ∨
      ∃ l d p, i = some (.replyTaken l d p) := by
  cases h with
  | storeWord _ _ _ hi => exact .inr (.inr (.inr hi))
  | hostWord _ v _ hi => exact .inr (.inr (.inl ⟨v, hi⟩))
  | clearStore hi => exact .inr (.inl hi)
  | _ => exact .inl rfl

/-- A store word that a write changes is the one written, and reads as it was written. -/
theorem Memory.of_read_write_ne {m : Memory} (h : m.wf) {k j : Nat} {v : Word}
    (hne : Memory.read (Memory.write k v m) j ≠ m.read j) : j = k ∧ Memory.read (Memory.write k v m) j = v := by
  have hj : j = k := by
    by_contra hother
    exact hne (Memory.read_write_other m k j v hother)
  exact ⟨hj, hj ▸ Memory.read_write_same m k v h⟩

/-- What the end of STARTING makes of one slot (R2). -/
def State.settleSeated (s : State) (n : Slot) : State := if s.lines.seat[n] then s.enterSettling n else s

theorem State.keeps_settleSeated (s : State) (n : Slot) : s.keeps (s.settleSeated n) := by
  unfold State.settleSeated
  split
  · exact s.keeps_enterSettling n
  · exact s.keeps_refl

/-- What the end of STARTING makes of all slots (R2, R142). -/
def State.settleAll (s : State) : State := allSlots.foldl State.settleSeated s

theorem State.keeps_settleAll (s : State) : s.keeps s.settleAll := State.keeps_foldl _ State.keeps_settleSeated _ _

/-- The end of STARTING (R77, R142). -/
theorem State.endStarting_eq (s : State) :
    s.endStarting = if s.starting ∧ s.lines.rstin = false
      then (State.settleAll { s with starting := false, clear := false, store := [] }).choose else s := rfl

/-- The end of STARTING is the one that clears the store (R77, R142). -/
theorem State.endStarting_store (s : State) :
    s.endStarting.store = s.store ∨ (s.lines.rstin = false ∧ s.starting = true ∧ s.endStarting.store = []) := by
  rw [State.endStarting_eq]
  split
  · next h => exact .inr ⟨h.2, h.1, (State.keeps_choose _).store.trans (State.keeps_settleAll _).store⟩
  · exact .inl rfl

/-- A word that a burst moves changes the store where it is a BURST_IN word of an ARMED context (R34, R99). -/
theorem State.moveWord_store (s : State) (n : Slot) (direction : Direction) (data : Word) :
    (s.moveWord n direction data).store = s.store ∨
      ∃ x a, direction = .input ∧ (s.context n).transfer = some x ∧ x.phase = .armed ∧ x.address x.moved = some a ∧
        (s.moveWord n direction data).store = s.store.write a data := by
  unfold State.moveWord
  split
  · next x hx =>
    split
    · next harmed =>
      have hcounted : ∀ u : State,
          (if x.moved + 1 = x.count then
            ((u.setTransfer n { x with moved := x.moved + 1, phase := .done }).reportTransfer n .done x
              x.count).clearErrors n
          else u.setTransfer n { x with moved := x.moved + 1 }).store = u.store := fun u => by split <;> rfl
      cases direction with
      | output => exact .inl (hcounted s)
      | input =>
        rcases ha : x.address x.moved with _ | a
        · refine .inl ((hcounted _).trans ?_)
          simp [State.storeReceived, ha]
        · refine .inr ⟨x, a, rfl, hx, harmed, ha, (hcounted _).trans ?_⟩
          simp [State.storeReceived, ha]
    · exact .inl rfl
  · exact .inl rfl

/-- REPLY_TAKEN changes the store by the word of a burst that a reply moves, taken while the strobe is out (R28, R34). -/
theorem execReplyTaken_store {s t : State} {lines : BitVec 2} {data : Word} {parity : BitVec 2}
    (h : exec (.replyTaken lines data parity) s = .next t) :
    t.store = s.store ∨
      ∃ o b, s.op = some o ∧ o.phase = .strobed ∧ o.kind = .burst b ∧ replyOfLines lines = some .take ∧
        (b.direction = .input → parityGood data parity = true) ∧
        t.store = (s.moveWord o.slot b.direction data).store := by
  cases h
  split
  · next o r ho hr =>
    split
    · next hp =>
      have htaken := s.keeps_takeReply o ⟨r, data, parityGood data parity⟩
      have hended : ∀ u : State, (if s.releaseHeld then u else react s u.finishWord).store = u.store := fun u => by
        split
        · rfl
        · exact (u.keeps_finishWord.trans (State.keeps_react _ _)).store
      rcases htaken with hkept | ⟨b, hb, hreply, hgood, hmoved⟩
      · exact .inl ((hended _).trans hkept.store)
      · exact .inr ⟨o, b, ho, hp, hb, by rw [hr, ← hreply], hgood, (hended _).trans hmoved.store⟩
    · exact .inl rfl
  · exact .inl rfl

theorem replyOfLines_eq_take {lines : BitVec 2} (h : replyOfLines lines = some .take) : lines = 1#2 := by
  revert lines
  decide

/-- A write of STORE_DATA changes the store by an accepted access (R88). -/
theorem State.writeStoreData_store (s : State) (w : Word) :
    (s.writeStoreData w).store = s.store ∨
      ∃ x a, s.takesAccess ∧ (s.context s.pointer.slot).transfer = some x ∧ x.phase = .loading ∧
        x.address s.pointer.offset.toNat = some a ∧ (s.writeStoreData w).store = s.store.write a w := by
  unfold State.writeStoreData
  split
  · next hready =>
    split
    · next a ha =>
      have haccess : s.takesAccess := by simpa [State.ready] using hready
      unfold State.windowAddress at ha
      split at ha
      · next x hx =>
        split at ha
        · next hadmits => exact .inr ⟨x, a, haccess, hx, x.phase.admits_write_iff.1 hadmits, ha, rfl⟩
        · cases ha
      · cases ha
    · exact .inl rfl
  · exact .inl rfl

/-- Settles O13: the three commands that may write the store, each with the word it writes. -/
theorem storeWordsAreWrittenByThreeThings : Obligations.StoreWordsAreWrittenByThreeThings := by
  intro i s t a hwf hstore h hne
  have hchanges : Changes (some i) s t := by simpa only [rowOf_of_wellFormed hwf] using exec_changes h
  have hstore_ne : t.store ≠ s.store := fun heq => hne (congrArg (·.read a) heq)
  rcases (changes_leave (fun _ _ hc => hc.store_eq) hchanges).resolve_left hstore_ne with
    hi | ⟨w, hi⟩ | ⟨lines, data, parity, hi⟩ <;> cases hi
  · cases h
    obtain ⟨hrstin, hstarting, hcleared⟩ := s.endStarting_store.resolve_left hstore_ne
    exact .inl ⟨rfl, hrstin, hstarting, by rw [hcleared]; rfl⟩
  · cases h
    obtain ⟨x, k, haccess, hx, hphase, haddress, hwritten⟩ := (s.writeStoreData_store w).resolve_left hstore_ne
    rw [hwritten] at hne ⊢
    obtain ⟨rfl, hread⟩ := Memory.of_read_write_ne hstore hne
    exact .inr (.inl ⟨w, x, rfl, haccess, hx, hphase, haddress, hread⟩)
  · obtain ⟨o, b, ho, hp, hb, hreply, hgood, hmoved⟩ := (execReplyTaken_store h).resolve_left hstore_ne
    obtain rfl := replyOfLines_eq_take hreply
    rw [hmoved] at hne hstore_ne ⊢
    obtain ⟨x, k, hinput, hx, harmed, haddress, hwritten⟩ := (s.moveWord_store o.slot b.direction data).resolve_left hstore_ne
    rw [hwritten] at hne ⊢
    obtain ⟨rfl, hread⟩ := Memory.of_read_write_ne hstore hne
    exact .inr (.inr ⟨data, parity, o, b, x, rfl, ho, hp, hb, hinput, hgood hinput, hx, harmed, haddress, hread⟩)

end Sys2Proof.Machine
end

section
/-! SUPPORT. The bus in use: while the arbiter may choose no slot holds a claim, as every step keeps it, and what a request
line does on such a bus (R22, R45 to R47, R53). -/

namespace Sys2Proof.Machine

/-! ## Claims -/

/-- A slot that is neither ONLINE nor in IDENTIFY_WAIT holds no claim (R45 to R47). -/
theorem State.claims_of_seat {s : State} {n : Slot} (hwait : (s.slot n).seat ≠ .identifyWait)
    (honline : (s.slot n).seat ≠ .online) : s.claims n = false := by
  simp [State.claims, State.identifyCandidate, State.attentionEligible, State.transferEligible, hwait, honline]

/-- The record of one slot is nothing to the claims of the others. -/
theorem State.claims_setSlot_other (s : State) {n m : Slot} (h : n ≠ m) (r : SlotRecord) :
    (s.setSlot n r).claims m = s.claims m := by
  have hslot : (s.setSlot n r).slot m = s.slot m := by rw [State.slot_setSlot, if_neg h]
  unfold State.claims State.identifyCandidate State.attentionEligible State.transferEligible
  rw [hslot]
  rfl

/-- The settle timers are nothing to the claims. -/
theorem State.claims_elapse (s : State) (k : Nat) (n : Slot) : (s.elapse k).claims n = s.claims n := by
  unfold State.claims State.identifyCandidate State.attentionEligible State.transferEligible
  rw [State.elapse_slot]
  rfl

/-- A context that is not ARMED gives its slot no claim that it did not hold (R47). -/
theorem State.claims_setContext {s : State} {n : Slot} {c : Context} (hc : ∀ x, c.transfer = some x → x.phase ≠ .armed)
    {m : Slot} (h : (s.setContext n c).claims m = true) : s.claims m = true := by
  have harmed : (s.setContext n c).armed m = true → s.armed m = true := by
    rw [State.armed_iff, State.armed_iff, State.context_setContext]
    rintro ⟨x, hx, hphase⟩
    split at hx
    · exact absurd hphase (hc x hx)
    · exact ⟨x, hx, hphase⟩
  have htransfer : (s.setContext n c).transferEligible m = true → s.transferEligible m = true := by
    rw [State.transferEligible_iff, State.transferEligible_iff]
    rintro ⟨hseat, hmode, hcapable, htreq, ha⟩
    exact ⟨hseat, hmode, hcapable, htreq, harmed ha⟩
  have hrest : (s.setContext n c).identifyCandidate m = s.identifyCandidate m ∧
      (s.setContext n c).attentionEligible m = s.attentionEligible m := ⟨rfl, rfl⟩
  simp only [State.claims, Bool.or_eq_true, hrest] at h ⊢
  exact h.imp_right htransfer

/-! ## Where the law holds -/

section

variable {s t : State}

theorem State.mayChoose_eq_false_of_op {o : Operation} (h : s.op = some o) : s.mayChoose = false := by
  simp [State.mayChoose, State.busFree, h]

theorem State.mayChoose_eq_false_of_clear (h : s.clear = true) : s.mayChoose = false := by
  simp [State.mayChoose, State.busFree, h]

theorem State.mayChoose_eq_false_of_hold (h : s.arb.hold ≠ .running) : s.mayChoose = false := by
  simp [State.mayChoose, h]

/-- Where the arbiter may not choose, claims may stand (R53). -/
theorem State.workLaw_of_not_mayChoose (horder : s.arb.order.toList.Nodup) (h : s.mayChoose = false) : s.workLaw :=
  ⟨horder, fun hmay => absurd hmay (by simp [h])⟩

/-- Where nothing is chosen that was not, and no claim is new, the law goes on holding. -/
theorem State.workLaw_of_fewer (h : s.workLaw) (horder : t.arb.order = s.arb.order)
    (hmay : t.mayChoose = true → s.mayChoose = true) (hclaims : ∀ n, t.claims n = true → s.claims n = true) :
    t.workLaw := by
  refine ⟨horder ▸ h.1, fun hm n => Bool.eq_false_iff.2 fun hc => ?_⟩
  simpa [h.2 (hmay hm) n] using hclaims n hc

/-- A choice that starts an operation puts it in flight (R24, R51). -/
theorem State.start_op_of_choice {c : Choice} (hc : s.choice = some c) : ∃ o, (s.start c).op = some o := by
  cases c with
  | identify n => exact ⟨_, rfl⟩
  | acknowledge n => exact ⟨_, rfl⟩
  | burst n =>
    have heligible : s.transferEligible n = true := by
      unfold State.choice at hc
      split at hc
      · cases hc
      · split at hc
        · next ht =>
          split at hc
          · cases hc
          · cases hc; exact List.find?_some ht
        · cases hc
        · next ht => cases hc; exact List.find?_some ht
        · cases hc
    obtain ⟨-, -, -, -, harmed⟩ := (s.transferEligible_iff n).1 heligible
    obtain ⟨x, hx, -⟩ := (s.armed_iff n).1 harmed
    simp only [State.start, hx]
    exact ⟨_, rfl⟩

/-- After a choice the bus is taken, or no slot holds a claim (R51, R53). -/
theorem State.workLaw_choose (horder : s.arb.order.toList.Nodup) : s.choose.workLaw := by
  have horder' : s.choose.arb.order.toList.Nodup := s.keeps_choose.order ▸ horder
  by_cases hmay : s.mayChoose = true
  · rcases hc : s.choice with _ | c
    · rw [State.choose_of_no_choice hc]
      exact ⟨horder, fun _ => (State.choice_eq_none_iff horder).1 hc⟩
    · obtain ⟨o, ho⟩ := State.start_op_of_choice hc
      rw [State.choose_of_choice hmay hc] at horder' ⊢
      exact State.workLaw_of_not_mayChoose horder' (State.mayChoose_eq_false_of_op ho)
  · have hself : s.choose = s := if_neg hmay
    rw [hself]
    exact State.workLaw_of_not_mayChoose horder (by simpa using hmay)

/-- An event after which the arbiter's choice is made where it is due: the bus is taken, or no slot holds a claim, since
none held one before and none is new (R53). -/
theorem workLaw_react (h : s.workLaw) (horder : t.arb.order = s.arb.order) (hready : t.ready = s.ready)
    (hhold : t.arb.hold = .running → s.arb.hold = .running) : (react s t).workLaw := by
  have hnodup : t.arb.order.toList.Nodup := horder ▸ h.1
  by_cases hdue : choiceDue s t = true
  · rw [react, if_pos hdue]
    exact State.workLaw_choose hnodup
  · rw [react_of_not_due hdue]
    obtain ⟨hbus, hnew⟩ := not_or.1 (mt (choiceDue_iff s t).2 hdue)
    refine ⟨hnodup, fun hmay n => Bool.eq_false_iff.2 fun hclaim => hnew ((newClaim_iff s t).2 ⟨n, ?_⟩)⟩
    have hparts : t.ready = true ∧ t.busFree = true ∧ t.arb.hold = .running := by
      simpa [State.mayChoose, and_assoc] using hmay
    obtain ⟨hr, hfree, hrun⟩ := hparts
    have hfree' : s.busFree = true := by
      by_contra hbusy
      exact hbus ⟨by simpa using hbusy, hfree⟩
    have hmay' : s.mayChoose = true := by simp [State.mayChoose, hready ▸ hr, hfree', hhold hrun]
    obtain ⟨hidentify, hattention, htransfer⟩ := (s.claims_eq_false_iff n).1 (h.2 hmay' n)
    simpa [State.claims, hidentify, hattention, htransfer, or_assoc] using hclaim

/-- RUNNING is entered by RESUME and at pin reset alone (R42, R57). -/
theorem changes_hold {i : Option Instr} (hresume : i ≠ some .resume) (hreset : i ≠ some .pinReset) (h : Changes i s t)
    (ht : t.arb.hold = .running) : s.arb.hold = .running := by
  refine changes_preserve (P := fun u => u.arb.hold = .running → s.arb.hold = .running) (fun u v hc hu hv => ?_) h id ht
  cases hc with
  | unit cmd origin turn hold hrun => exact hu (hrun hv)
  | run hi => exact absurd hi hresume
  | pinReset hi => exact absurd hi hreset
  | _ => exact hu hv

theorem State.keeps.ready (h : s.keeps t) : t.ready = s.ready := by
  simp only [State.ready, h.lines, h.starting]

theorem State.keeps.order_nodup (h : s.keeps t) (hs : s.arb.order.toList.Nodup) : t.arb.order.toList.Nodup :=
  h.order ▸ hs

/-- An event of the shared operations, with the choice that is due after it (R53). -/
theorem workLaw_react_of_changes {i : Option Instr} (h : s.workLaw) (hkeeps : s.keeps t) (hchanges : Changes i s t)
    (hresume : i ≠ some .resume) (hreset : i ≠ some .pinReset) : (react s t).workLaw :=
  workLaw_react h hkeeps.order hkeeps.ready (changes_hold hresume hreset hchanges)

/-! ## Events -/

theorem State.workLaw_seatActive (h : s.workLaw) (n : Slot) : (s.seatActive n).workLaw := by
  simp only [State.seatActive]
  split
  · refine State.workLaw_of_fewer h rfl id fun m hm => ?_
    by_cases hnm : n = m
    · subst hnm
      have hnone : (State.enterSettling { s with lines := { s.lines with seat := s.lines.seat.set n true } } n).claims n =
          false := State.claims_of_seat (by simp [State.enterSettling]) (by simp [State.enterSettling])
      simp [hnone] at hm
    · exact (State.claims_setSlot_other _ hnm _).symm.trans hm
  · exact h

theorem State.workLaw_seatInactive (h : s.workLaw) (n : Slot) : (s.seatInactive n).workLaw := by
  have hkeeps := State.keeps_remove { s with lines := s.lines.unseat n } n
  have hhold := changes_hold (i := none) nofun nofun (changes_remove _ { s with lines := s.lines.unseat n } n)
  have hremoved : (react s ({ s with lines := s.lines.unseat n }.remove n)).workLaw :=
    workLaw_react h hkeeps.order hkeeps.ready hhold
  simp only [State.seatInactive]
  split
  · split
    · exact h
    · refine State.workLaw_of_fewer h rfl id fun m hm => ?_
      by_cases hnm : n = m
      · subst hnm
        have hnone : (State.setSlot { s with lines := s.lines.unseat n } n
            { s.slot n with seat := .empty, timer := none }).claims n = false :=
          State.claims_of_seat (by simp) (by simp)
        simp [hnone] at hm
      · exact (State.claims_setSlot_other _ hnm _).symm.trans hm
    · exact hremoved
    · exact hremoved
    · exact hremoved
    · exact hremoved
    · exact hremoved
  · exact h

theorem State.workLaw_elapse (h : s.workLaw) (k : Nat) : (s.elapse k).workLaw :=
  State.workLaw_of_fewer h rfl id fun n hn => (s.claims_elapse k n).symm.trans hn

theorem State.workLaw_expire (h : s.workLaw) (n : Slot) : (s.expire n).workLaw :=
  workLaw_react h rfl rfl id

theorem State.workLaw_settleExpiry (h : s.workLaw) (n : Slot) : (s.settleExpiry n).workLaw := by
  unfold State.settleExpiry
  split
  · exact State.workLaw_expire (State.workLaw_elapse h _) n
  · exact h

theorem State.workLaw_microsecond (h : s.workLaw) : s.microsecond.workLaw := by
  have hpass : ∀ (l : List Slot) (u : State), u.workLaw → (l.foldl State.expire u).workLaw := by
    intro l
    induction l with
    | nil => exact fun _ hu => hu
    | cons n l ih => exact fun u hu => ih _ (State.workLaw_expire hu n)
  exact hpass _ _ (State.workLaw_elapse h 1)

/-- The end of the word cycle in progress, with the choice that follows it (R53). -/
theorem workLaw_react_finishWord (h : s.workLaw) : (react s s.finishWord).workLaw :=
  workLaw_react_of_changes (i := none) h s.keeps_finishWord (changes_finishWord none s) nofun nofun

theorem State.workLaw_idle (h : s.workLaw) : s.idle.workLaw := by
  unfold State.idle
  split
  · split
    · exact State.workLaw_microsecond h
    · exact State.workLaw_microsecond h
    · exact State.workLaw_of_not_mayChoose h.1 (State.mayChoose_eq_false_of_op rfl)
    · exact workLaw_react_finishWord h
  · exact State.workLaw_microsecond h

theorem workLaw_execReplyRelease (h : s.workLaw) (ht : execReplyRelease s = .next t) : t.workLaw := by
  have hfinished := workLaw_react_finishWord h
  cases ht
  split
  · exact State.workLaw_of_not_mayChoose hfinished.1 (State.mayChoose_eq_false_of_op rfl)
  · exact hfinished

/-- The reply that is taken leaves its operation in flight (R25). -/
theorem State.takeReply_op (o : Operation) (a : Answer) : ∃ p, (s.takeReply o a).op = some p := by
  unfold State.takeReply
  split
  · exact ⟨_, rfl⟩
  · exact ⟨_, rfl⟩
  · split <;> exact ⟨_, rfl⟩

theorem workLaw_execReplyTaken (h : s.workLaw) {lines : BitVec 2} {data : Word} {parity : BitVec 2}
    (ht : exec (.replyTaken lines data parity) s = .next t) : t.workLaw := by
  have horder : t.arb.order = s.arb.order :=
    (changes_leave (f := fun u => u.arb.order) (fun _ _ hc => hc.order_eq) (exec_changes ht)).resolve_right
      (by simp [rowOf])
  cases ht
  revert horder
  split
  · next o r ho _ =>
    split
    · simp only []
      obtain ⟨p, hp⟩ := s.takeReply_op o ⟨r, data, parityGood data parity⟩
      have hchanges := (changes_takeReply _ s ⟨lines, data, parity, rfl⟩ ho ⟨r, data, parityGood data parity⟩).trans
        (changes_finishWord _ _)
      have hready : (s.takeReply o ⟨r, data, parityGood data parity⟩).finishWord.ready = s.ready := by
        rw [(State.keeps_finishWord _).ready]
        rcases s.keeps_takeReply o ⟨r, data, parityGood data parity⟩ with hk | ⟨b, -, -, -, hk⟩
        · exact hk.ready
        · rw [hk.ready, (s.keeps_moveWord _ _ _).ready]
          rfl
      split
      · exact fun horder => State.workLaw_of_not_mayChoose (horder ▸ h.1) (State.mayChoose_eq_false_of_op hp)
      · intro horder
        rw [(State.keeps_react _ _).order] at horder
        exact workLaw_react h horder hready (changes_hold (by simp) (by simp) hchanges)
    · exact fun _ => h
  · exact fun _ => h

theorem workLaw_execResponseWindowExpiry (h : s.workLaw) (ht : execResponseWindowExpiry s = .next t) : t.workLaw := by
  cases ht
  split
  · next o ho =>
    have htimeout : (react s (s.timeout o)).workLaw :=
      workLaw_react_of_changes (i := none) h (s.keeps_timeout o) (changes_timeout none s ho) nofun nofun
    split
    · exact h
    · exact h
    · exact htimeout
    · exact htimeout
  · exact h

theorem State.workLaw_pinReset (s : State) : s.pinReset.workLaw :=
  State.workLaw_of_not_mayChoose s.registerLaw_pinReset.2.2.2.2.1 (State.mayChoose_eq_false_of_clear rfl)

theorem State.workLaw_release (h : s.workLaw) : s.release.workLaw := by
  unfold State.release
  split
  · exact State.workLaw_of_not_mayChoose h.1 (State.mayChoose_eq_false_of_clear rfl)
  · exact h

theorem State.workLaw_endStarting (h : s.workLaw) : s.endStarting.workLaw := by
  have hkeeps := State.keeps_settleAll { s with starting := false, clear := false, store := [] }
  rw [State.endStarting_eq]
  split
  · exact State.workLaw_choose (hkeeps.order_nodup h.1)
  · exact h

theorem State.workLaw_endClear (h : s.workLaw) : s.endClear.workLaw := by
  unfold State.endClear
  split
  · split
    · split
      · exact workLaw_react h rfl rfl id
      · exact workLaw_react h rfl rfl id
    · exact workLaw_react h rfl rfl id
  · exact h

/-! ## The host's commands and accesses -/

theorem State.workLaw_runSetMode (h : s.workLaw) : s.runSetMode.workLaw := by
  simp only [State.runSetMode]
  split
  · exact workLaw_react h rfl rfl id
  · exact h

theorem State.workLaw_runSetOrder (h : s.workLaw) : s.runSetOrder.workLaw := by
  simp only [State.runSetOrder]
  split
  · next hnodup => exact ⟨hnodup, h.2⟩
  · exact h

theorem State.workLaw_runHold (h : s.workLaw) : s.runHold.workLaw := by
  unfold State.runHold
  split
  · split
    · exact State.workLaw_of_not_mayChoose h.1 (State.mayChoose_eq_false_of_hold nofun)
    · exact State.workLaw_of_not_mayChoose h.1 (State.mayChoose_eq_false_of_hold nofun)
  · exact h
  · exact h

theorem State.workLaw_runResume (h : s.workLaw) : s.runResume.workLaw := by
  unfold State.runResume
  split
  · exact State.workLaw_choose h.1
  · exact h
  · exact h

theorem State.workLaw_runReidentify (h : s.workLaw) : s.runReidentify.workLaw := by
  simp only [State.runReidentify]
  split
  · exact workLaw_react h rfl rfl id
  · exact h

theorem State.workLaw_runUnfence (h : s.workLaw) : s.runUnfence.workLaw := by
  simp only [State.runUnfence]
  split
  · exact workLaw_react h rfl rfl id
  · exact h

theorem State.workLaw_runTakeAttention (h : s.workLaw) : s.runTakeAttention.workLaw := by
  simp only [State.runTakeAttention]
  split
  · exact h
  · split
    · exact workLaw_react h rfl rfl id
    · exact h

theorem State.workLaw_runRetire (h : s.workLaw) : s.runRetire.workLaw := by
  simp only [State.runRetire]
  split
  · exact workLaw_react h rfl rfl id
  · exact h

theorem State.workLaw_runOpen (h : s.workLaw) : s.runOpen.workLaw := by
  simp only [State.runOpen]
  split
  · exact h
  · split
    · exact h
    · split
      · exact h
      · split
        · exact h
        · refine State.workLaw_of_fewer h rfl id fun m hm => State.claims_setContext (s := s) ?_ hm
          rintro x ⟨⟩ ⟨⟩

theorem State.workLaw_runArm (h : s.workLaw) : s.runArm.workLaw := by
  simp only [State.runArm]
  split
  · split
    · split
      · exact workLaw_react h rfl rfl id
      · exact h
    · exact h
  · exact h

theorem State.workLaw_runAbort (h : s.workLaw) : s.runAbort.workLaw := by
  simp only [State.runAbort]
  generalize operandSlot s.cmd.opa = n
  split
  · next x _ =>
    split
    · split
      · have hkeeps := (s.keeps_execute.trans
          (State.keeps_setContext _ n { s.context n with abortPending := true })).trans (State.keeps_requestBoundary _ n)
        have hchanges := ((changes_execute none s).trans (changes_setAbortPending _ s.execute n true)).trans
          (changes_requestBoundary _ _ n)
        exact workLaw_react_of_changes h hkeeps hchanges nofun nofun
      · have hkeeps := (s.keeps_halt n .aborted).trans (State.keeps_complete _ .ok (BitVec.ofNat 16 x.moved))
        have hchanges := (changes_halt none s n .aborted).trans (changes_complete _ _ .ok (BitVec.ofNat 16 x.moved))
        exact workLaw_react_of_changes h hkeeps hchanges nofun nofun
    · exact h
  · exact h

theorem State.workLaw_runClose (h : s.workLaw) : s.runClose.workLaw := by
  have hcloses : ∀ n x, ((s.closeContext n x).complete .ok 0).workLaw := fun n x =>
    State.workLaw_of_fewer h rfl id fun m hm => State.claims_setContext (s := s) (by simp) hm
  simp only [State.runClose]
  split
  · split
    · exact h
    · exact hcloses _ _
    · split
      · exact h
      · exact hcloses _ _
    · split
      · exact h
      · exact hcloses _ _
  · exact h

theorem State.workLaw_runNextEvent (h : s.workLaw) : s.runNextEvent.workLaw := by
  unfold State.runNextEvent
  split
  · exact h
  · split <;> exact h

theorem State.workLaw_runCommand (h : s.workLaw) (c : Command) : (s.runCommand c).workLaw := by
  cases c with
  | setMode => exact State.workLaw_runSetMode h
  | setOrder => exact State.workLaw_runSetOrder h
  | hold => exact State.workLaw_runHold h
  | resume => exact State.workLaw_runResume h
  | reidentify => exact State.workLaw_runReidentify h
  | unfence => exact State.workLaw_runUnfence h
  | takeAttention => exact State.workLaw_runTakeAttention h
  | retire => exact State.workLaw_runRetire h
  | openContext => exact State.workLaw_runOpen h
  | arm => exact State.workLaw_runArm h
  | abort => exact State.workLaw_runAbort h
  | close => exact State.workLaw_runClose h
  | nextEvent => exact State.workLaw_runNextEvent h
  | busReset =>
    have hkeeps := s.keeps_busReset.trans (State.keeps_execute _)
    exact State.workLaw_of_not_mayChoose (hkeeps.order_nodup h.1) (State.mayChoose_eq_false_of_clear rfl)

theorem State.workLaw_writeCommand (h : s.workLaw) (w : Word) : (s.writeCommand w).workLaw := by
  unfold State.writeCommand
  split
  · exact h
  · split
    · exact h
    · split
      · exact State.workLaw_runCommand (by exact h) _
      · exact h

theorem State.workLaw_writeControl (h : s.workLaw) (w : Word) : (s.writeControl w).workLaw := by
  have hkeeps := State.keeps_applyThresholds { s with control := controlOfWord w }
  have hhold := changes_hold (i := none) nofun nofun (changes_applyThresholds _ { s with control := controlOfWord w })
  unfold State.writeControl
  split
  · exact workLaw_react h hkeeps.order hkeeps.ready hhold
  · exact h

theorem State.workLaw_readStoreData (h : s.workLaw) : s.readStoreData.workLaw := by
  unfold State.readStoreData
  split
  · split <;> exact h
  · exact h

theorem State.workLaw_writeStoreData (h : s.workLaw) (w : Word) : (s.writeStoreData w).workLaw := by
  unfold State.writeStoreData
  split
  · split <;> exact h
  · exact h

theorem State.workLaw_writeStatus (h : s.workLaw) (w : Word) : (s.writeStatus w).workLaw := by
  unfold State.writeStatus
  split <;> exact h

theorem State.workLaw_writeTiming (h : s.workLaw) (w : Word) : (s.writeTiming w).workLaw := by
  unfold State.writeTiming
  split <;> exact h

theorem State.workLaw_writePointer (h : s.workLaw) (w : Word) : (s.writePointer w).workLaw := by
  unfold State.writePointer
  split <;> exact h

theorem State.workLaw_writeSlotSelect (h : s.workLaw) (w : Word) : (s.writeSlotSelect w).workLaw := by
  unfold State.writeSlotSelect
  split <;> exact h

theorem State.workLaw_writeOpa (h : s.workLaw) (w : Word) : (s.writeOpa w).workLaw := by
  unfold State.writeOpa
  split <;> exact h

theorem State.workLaw_writeOpb (h : s.workLaw) (w : Word) : (s.writeOpb w).workLaw := by
  unfold State.writeOpb
  split <;> exact h

theorem State.workLaw_hostWrite (h : s.workLaw) (address : BitVec 5) (w : Word) : (s.hostWrite address w).workLaw := by
  unfold State.hostWrite
  split
  · exact State.workLaw_writeStatus h w
  · exact State.workLaw_writeControl h w
  · exact State.workLaw_writeTiming h w
  · exact State.workLaw_writeCommand h w
  · exact State.workLaw_writeOpa h w
  · exact State.workLaw_writeOpb h w
  · exact State.workLaw_writePointer h w
  · exact State.workLaw_writeStoreData h w
  · exact State.workLaw_writeSlotSelect h w
  · exact h

/-! ## Every command and every step -/

theorem exec_workLaw (h : s.workLaw) {i : Instr} (ht : exec i s = .next t) : t.workLaw := by
  cases i with
  | pinReset => cases ht; exact s.workLaw_pinReset
  | rstinRelease => cases ht; exact State.workLaw_release h
  | startingEnd => cases ht; exact State.workLaw_endStarting h
  | seatActive n => cases ht; exact State.workLaw_seatActive h n
  | seatInactiveSettling n => cases ht; exact State.workLaw_seatInactive h n
  | removal n => cases ht; exact State.workLaw_seatInactive h n
  | settleTimerExpiry n => cases ht; exact State.workLaw_settleExpiry h n
  | areqActive n active => cases ht; exact workLaw_react h rfl rfl id
  | treqActive n active => cases ht; exact workLaw_react h rfl rfl id
  | replyRelease => exact workLaw_execReplyRelease h ht
  | replyTaken lines data parity => exact workLaw_execReplyTaken h ht
  | responseWindowExpiry => exact workLaw_execResponseWindowExpiry h ht
  | clearEnd => cases ht; exact State.workLaw_endClear h
  | controlWrite w => cases ht; exact State.workLaw_writeControl h w
  | timingWrite w => cases ht; exact State.workLaw_writeTiming h w
  | statusWrite w => cases ht; exact State.workLaw_writeStatus h w
  | storePointerWrite w => cases ht; exact State.workLaw_writePointer h w
  | storeDataRead => cases ht; exact State.workLaw_readStoreData h
  | storeDataWrite w => cases ht; exact State.workLaw_writeStoreData h w
  | slotSelectWrite w => cases ht; exact State.workLaw_writeSlotSelect h w
  | registerWrite address w => cases ht; exact State.workLaw_hostWrite h address w
  | _ => cases ht; exact State.workLaw_writeCommand h _

end

/-- Settles O10: an event that frees the bus or brings a claim ends in a choice, and no other brings a claim. -/
theorem stepKeepsTheBusInUse : Obligations.StepKeepsTheBusInUse := by
  intro s t h hstep
  unfold step at hstep
  split at hstep
  · exact exec_workLaw (by exact h) hstep
  · cases hstep
    exact State.workLaw_idle h

/-! ## Request lines -/

/-- The part after an AREQ line has changed to a level (R22). -/
def State.setAreq (s : State) (n : Slot) (level : Bool) : State :=
  { s with lines := { s.lines with areq := s.lines.areq.set n level } }

/-- The part after a TREQ line has changed to a level (R22). -/
def State.setTreq (s : State) (n : Slot) (level : Bool) : State :=
  { s with lines := { s.lines with treq := s.lines.treq.set n level } }

section

variable (s : State) {n m : Slot} (level : Bool)

theorem State.attentionEligible_setAreq_other (h : n ≠ m) :
    (s.setAreq n level).attentionEligible m = s.attentionEligible m := by
  have hline : (s.setAreq n level).lines.areq[m] = s.lines.areq[m] := (vector_get_set _ n m _).trans (if_neg h)
  unfold State.attentionEligible
  rw [hline]
  rfl

theorem State.transferEligible_setTreq_other (h : n ≠ m) :
    (s.setTreq n level).transferEligible m = s.transferEligible m := by
  have hline : (s.setTreq n level).lines.treq[m] = s.lines.treq[m] := (vector_get_set _ n m _).trans (if_neg h)
  unfold State.transferEligible
  rw [hline]
  rfl

theorem State.attentionEligible_setAreq_inactive (n : Slot) : (s.setAreq n false).attentionEligible n = false := by
  have hline : (s.setAreq n false).lines.areq[n] = false := (vector_get_set _ n n _).trans (if_pos rfl)
  unfold State.attentionEligible
  rw [hline]
  simp

theorem State.transferEligible_setTreq_inactive (n : Slot) : (s.setTreq n false).transferEligible n = false := by
  have hline : (s.setTreq n false).lines.treq[n] = false := (vector_get_set _ n n _).trans (if_pos rfl)
  unfold State.transferEligible
  rw [hline]
  simp

variable {s level}

/-- A new claim on a bus that the arbiter may use is chosen at once (R53). -/
theorem react_of_claim {t : State} {c : Choice} (hnew : newClaim s t = true) (hmay : t.mayChoose = true)
    (hchoice : t.choice = some c) : react s t = t.start c := by
  rw [react, if_pos ((choiceDue_iff s t).2 (.inr hnew)), State.choose_of_choice hmay hchoice]

/-- An AREQ line whose slot stays without a claim changes its level alone (R22, R53). -/
theorem react_setAreq_of_not_eligible (h : s.workLaw)
    (hstays : s.mayChoose = false ∨ (s.setAreq n level).attentionEligible n = false) :
    react s (s.setAreq n level) = s.setAreq n level := by
  by_cases hmay : s.mayChoose = true
  · refine react_of_no_choice ((State.choice_eq_none_iff (by exact h.1)).2 fun m => ?_)
    obtain ⟨hidentify, hattention, htransfer⟩ := (s.claims_eq_false_iff m).1 (h.2 hmay m)
    refine (State.claims_eq_false_iff _ m).2 ⟨hidentify, ?_, htransfer⟩
    by_cases hm : n = m
    · exact hm ▸ hstays.resolve_left (by simp [hmay])
    · rw [s.attentionEligible_setAreq_other level hm, hattention]
  · exact react_of_not_mayChoose (Bool.eq_false_iff.2 hmay)

/-- A TREQ line whose slot stays without a claim changes its level alone (R22, R53). -/
theorem react_setTreq_of_not_eligible (h : s.workLaw)
    (hstays : s.mayChoose = false ∨ (s.setTreq n level).transferEligible n = false) :
    react s (s.setTreq n level) = s.setTreq n level := by
  by_cases hmay : s.mayChoose = true
  · refine react_of_no_choice ((State.choice_eq_none_iff (by exact h.1)).2 fun m => ?_)
    obtain ⟨hidentify, hattention, htransfer⟩ := (s.claims_eq_false_iff m).1 (h.2 hmay m)
    refine (State.claims_eq_false_iff _ m).2 ⟨hidentify, hattention, ?_⟩
    by_cases hm : n = m
    · exact hm ▸ hstays.resolve_left (by simp [hmay])
    · rw [s.transferEligible_setTreq_other level hm, htransfer]
  · exact react_of_not_mayChoose (Bool.eq_false_iff.2 hmay)

/-- On a bus in use, a slot that an AREQ line makes eligible is the one to claim the bus (R51, R53). -/
theorem react_setAreq_of_eligible (h : s.workLaw) (hmay : s.mayChoose = true)
    (heligible : (s.setAreq n level).attentionEligible n = true) :
    react s (s.setAreq n level) = (s.setAreq n level).start (.acknowledge n) := by
  have hnone := fun m => (s.claims_eq_false_iff m).1 (h.2 hmay m)
  refine react_of_claim ((newClaim_iff _ _).2 ⟨n, .inr (.inl ⟨heligible, (hnone n).2.1⟩)⟩) hmay ?_
  refine ((choiceFollowsScanAndTurn (s.setAreq n level) (by exact h.1)).2.1 n).2
    ⟨fun m => (hnone m).1, ⟨heligible, fun m hm => ?_⟩, .inr fun m => (hnone m).2.2⟩
  by_cases hnm : n = m
  · exact hnm ▸ le_rfl
  · rw [s.attentionEligible_setAreq_other level hnm, (hnone m).2.1] at hm
    cases hm

/-- On a bus in use, a slot that a TREQ line makes eligible is the one to claim the bus (R51, R53). -/
theorem react_setTreq_of_eligible (h : s.workLaw) (hmay : s.mayChoose = true)
    (heligible : (s.setTreq n level).transferEligible n = true) :
    react s (s.setTreq n level) = (s.setTreq n level).start (.burst n) := by
  have hnone := fun m => (s.claims_eq_false_iff m).1 (h.2 hmay m)
  refine react_of_claim ((newClaim_iff _ _).2 ⟨n, .inr (.inr ⟨heligible, (hnone n).2.2⟩)⟩) hmay ?_
  refine ((choiceFollowsScanAndTurn (s.setTreq n level) (by exact h.1)).2.2.1 n).2
    ⟨fun m => (hnone m).1, ⟨heligible, fun m hm => ?_⟩, .inr fun m => (hnone m).2.1⟩
  by_cases hnm : n = m
  · exact hnm ▸ le_rfl
  · rw [s.transferEligible_setTreq_other level hnm, (hnone m).2.2] at hm
    cases hm

end

/-- Settles O26: on a bus in use no slot holds a claim before the line changes, so at most its own slot does after. -/
theorem requestLinesStartOperations : Obligations.RequestLinesStartOperations := by
  intro s n h areq treq
  refine ⟨fun hmay heligible => ?acknowledges, fun hmay heligible => ?bursts, fun hstays => ?areqStays,
    fun hstays => ?treqStays, ?areqInactive, ?treqInactive⟩
  case acknowledges => exact congrArg Host.Outcome.next (react_setAreq_of_eligible h hmay heligible)
  case bursts => exact congrArg Host.Outcome.next (react_setTreq_of_eligible h hmay heligible)
  case areqStays => exact congrArg Host.Outcome.next (react_setAreq_of_not_eligible h hstays)
  case treqStays => exact congrArg Host.Outcome.next (react_setTreq_of_not_eligible h hstays)
  case areqInactive =>
    exact congrArg Host.Outcome.next
      (react_setAreq_of_not_eligible h (.inr (s.attentionEligible_setAreq_inactive n)))
  case treqInactive =>
    exact congrArg Host.Outcome.next
      (react_setTreq_of_not_eligible h (.inr (s.transferEligible_setTreq_inactive n)))

end Sys2Proof.Machine
end

section
/-! SUPPORT. The resets, the seat lines and the host's plain writes, each as the equation its rule states. -/

namespace Sys2Proof.Machine

/-! ## The step and the part in pin reset -/

/-- Settles O1: the step is defined so. -/
theorem stepRunsTheFrontCommand : Obligations.StepRunsTheFrontCommand := by
  intro s i rest h
  simp only [step, h]

theorem State.reset_eq_pinReset : State.reset = State.reset.pinReset := rfl

theorem SlotRecord.law_reset : SlotRecord.reset.law := by
  refine ⟨by simp [SlotRecord.reset], nofun, ?_, nofun, fun _ => rfl, fun _ => rfl⟩
  simp [SlotRecord.reset]

theorem State.slot_pinReset (s : State) (n : Slot) : s.pinReset.slot n = SlotRecord.reset :=
  Vector.getElem_replicate n.isLt

theorem State.context_pinReset (s : State) (n : Slot) : s.pinReset.context n = Context.reset :=
  Vector.getElem_replicate n.isLt

/-- With every block at its pin reset value nothing is in flight and nothing waits (R141, R155). -/
theorem State.partLaw_pinReset (s : State) : s.pinReset.partLaw where
  reset := fun _ => ⟨rfl, rfl⟩
  quiet := fun _ => ⟨rfl, rfl, rfl, fun n => by simp [slot_pinReset, context_pinReset, SlotRecord.reset, Context.reset]⟩
  still := fun _ => rfl
  operation := nofun
  identifying := fun n h => by simp [slot_pinReset, SlotRecord.reset] at h
  armed := fun n h => by simp [State.armed, context_pinReset, Context.reset] at h
  slots := fun n => by rw [slot_pinReset]; exact SlotRecord.law_reset
  fence := fun n _ hempty => absurd (by simp [slot_pinReset, SlotRecord.reset]) hempty
  fields := show 1 ≤ Control.reset.threshold ∧ 1 ≤ Timing.reset.settleTime ∧ 1 ≤ Timing.reset.responseWindow ∧
    Timing.reset.responseWindow ≤ 63 by decide
  command := by
    refine ⟨nofun, nofun, fun n h => ?_, fun _ h => nomatch h.1⟩
    simp [context_pinReset, Context.reset] at h

/-- Settles O4: the part in pin reset is what PIN_RESET makes of it. -/
theorem pinResetMeetsEveryLaw : Obligations.PinResetMeetsEveryLaw := by
  have hattention : State.reset.attentionLaw := ⟨by decide, .nil, nofun, by decide, nofun⟩
  refine ⟨⟨.nil, nofun⟩, ?_, ?_, ?_, hattention, ?_, ?_⟩ <;> rw [State.reset_eq_pinReset]
  · exact State.registerLaw_pinReset _
  · exact State.pageLaw_pinReset _
  · exact State.reportLaw_pinReset _
  · exact State.workLaw_pinReset _
  · exact State.partLaw_pinReset _

/-- Settles O20: the values of pin reset are those of the reset state, but for the lines, the store and the queue. -/
theorem pinResetGivesEveryBlockItsValues : Obligations.PinResetGivesEveryBlockItsValues := by
  intro s
  refine ⟨s.pinReset, rfl, rfl, rfl, rfl, rfl, s.slot_pinReset, s.context_pinReset, ?_, rfl, rfl, rfl, rfl,
    fun n => Vector.getElem_replicate n.isLt, rfl, ?_, rfl, rfl, rfl, rfl, rfl, rfl, rfl, rfl, rfl, rfl, rfl⟩
  · show ∀ p : Position, Arbiter.reset.order[p] = p
    decide
  · show allPages.map Fin.val = List.range 64
    decide

/-! ## STARTING and CLEAR -/

/-- What the end of STARTING makes of one slot (R2). -/
theorem State.settleSeated_slots (s : State) (n m : Slot) :
    s.settleSeated n = { s with slots := (s.settleSeated n).slots } ∧
      (s.settleSeated n).slot m =
        if m = n ∧ s.lines.seat[n] = true then
          { s.slot n with seat := .settling, timer := some (s.timing.settleTime * 1000), errorCount := 0,
                          lastError := none }
        else s.slot m := by
  unfold State.settleSeated
  by_cases hseat : s.lines.seat[n] = true
  · rw [if_pos hseat, State.enterSettling_eq]
    refine ⟨rfl, (vector_get_set _ n m _).trans ?_⟩
    simp only [hseat, and_true, eq_comm (a := n)]
    rfl
  · simp [hseat]

/-- What the end of STARTING makes of the slots of a list, each taken once (R2). -/
theorem State.settleSeated_foldl (l : List Slot) (hl : l.Nodup) (s : State) :
    l.foldl State.settleSeated s = { s with slots := (l.foldl State.settleSeated s).slots } ∧
      ∀ m : Slot, (l.foldl State.settleSeated s).slot m =
        if m ∈ l ∧ s.lines.seat[m] = true then
          { s.slot m with seat := .settling, timer := some (s.timing.settleTime * 1000), errorCount := 0,
                          lastError := none }
        else s.slot m := by
  induction l generalizing s with
  | nil => simp
  | cons n l ih =>
    obtain ⟨hnotin, hrest⟩ := List.nodup_cons.1 hl
    have hframe := (s.settleSeated_slots n n).1
    obtain ⟨hstate, hslot⟩ := ih hrest (s.settleSeated n)
    have hlines : (s.settleSeated n).lines = s.lines := by rw [hframe]
    have htiming : (s.settleSeated n).timing = s.timing := by rw [hframe]
    refine ⟨?_, fun m => ?_⟩
    · rw [List.foldl_cons, hstate, hframe]
    · rw [List.foldl_cons, hslot m, hlines, htiming, (s.settleSeated_slots n m).2]
      by_cases hm : m = n
      · subst hm
        simp [hnotin]
      · simp [hm]

theorem State.settleAll_slots (s : State) :
    s.settleAll = { s with slots := s.settleAll.slots } ∧
      ∀ m : Slot, s.settleAll.slot m =
        if s.lines.seat[m] = true then
          { s.slot m with seat := .settling, timer := some (s.timing.settleTime * 1000), errorCount := 0,
                          lastError := none }
        else s.slot m := by
  obtain ⟨hstate, hslot⟩ := State.settleSeated_foldl allSlots (by decide) s
  refine ⟨hstate, fun m => (hslot m).trans ?_⟩
  simp [mem_allSlots]

/-- A slot that is EMPTY or SETTLING holds no claim (R45, R46, R47). -/
theorem State.claims_of_not_pastSettling {s : State} {n : Slot}
    (h : (s.slot n).seat = .empty ∨ (s.slot n).seat = .settling) : s.claims n = false := by
  rcases h with h | h <;> simp [State.claims, State.identifyCandidate, State.attentionEligible, State.transferEligible, h]

/-- Where no slot holds a claim the arbiter chooses nothing (R51). -/
theorem State.choose_of_no_claim {s : State} (h : ∀ n : Slot, s.claims n = false) : s.choose = s := by
  have hscan : ∀ start claim, (∀ n : Slot, claim n = false) → s.scan start claim = none := fun start claim hc =>
    List.find?_eq_none.2 fun n _ => by simp [hc n]
  have hclaims := fun n => (State.claims_eq_false_iff s n).1 (h n)
  have hnone : s.choice = none := by
    unfold State.choice
    rw [hscan 0 s.identifyCandidate fun n => (hclaims n).1, hscan 0 s.attentionEligible fun n => (hclaims n).2.1,
      hscan s.transferStart s.transferEligible fun n => (hclaims n).2.2]
  unfold State.choose
  split <;> simp [hnone]

/-- Settles O21: the end of STARTING leaves each slot EMPTY or SETTLING, so that no claim is found. -/
theorem startingRunsFromReleaseToItsEnd : Obligations.StartingRunsFromReleaseToItsEnd := by
  refine ⟨fun s h => ?_, fun s hrstin hstarting _ hempty => ?_⟩
  · show Host.Outcome.next s.release = _
    rw [State.release, if_pos h]
  · obtain ⟨hstate, hslot⟩ := State.settleAll_slots { s with starting := false, clear := false, store := [] }
    have hend : s.endStarting = State.settleAll { s with starting := false, clear := false, store := [] } := by
      rw [State.endStarting_eq, if_pos ⟨hstarting, hrstin⟩]
      refine State.choose_of_no_claim fun n => State.claims_of_not_pastSettling ?_
      rw [hslot n]
      split
      · exact .inr rfl
      · exact .inl (hempty n)
    refine ⟨s.endStarting, rfl, ?_, ?_, ?_⟩
    · rw [hend, hstate]
    · intro a
      rw [hend, hstate]
      rfl
    · rw [hend]
      exact hslot

/-- Settles O22. -/
theorem clearEndCompletesBusReset : Obligations.ClearEndCompletesBusReset := by
  refine ⟨fun s r haccess hclear hr hcode => ?_, fun s hrstin hstarting hclear hidle => ?_⟩
  · have hcode' : r.code = Command.busReset.code := hcode
    show Host.Outcome.next s.endClear = _
    rw [State.endClear, if_pos ⟨hclear, haccess.1⟩]
    simp only [hr, hcode', if_true]
    rfl
  · show Host.Outcome.next s.endClear = _
    rw [State.endClear, if_pos ⟨hclear, hrstin⟩]
    simp only [hidle]
    rw [react_of_not_mayChoose (by simp [State.mayChoose, State.ready, hstarting])]

/-! ## Settle timers and SEAT lines -/

/-- The passing of time before an event is nothing to the choice after it (R53). -/
theorem react_elapse (s : State) (k : Nat) (t : State) : react (s.elapse k) t = react s t := by
  have hnew : newClaim (s.elapse k) t = newClaim s t := by
    unfold newClaim State.identifyCandidate State.attentionEligible State.transferEligible
    simp only [State.elapse_slot]
    rfl
  have hdue : choiceDue (s.elapse k) t = choiceDue s t := congrArg (_ || ·) hnew
  unfold react
  rw [hdue]

/-- A slot's record once its settle timer has expired (R6). -/
theorem State.slot_setSlot_expired (s : State) (k : Nat) (n m : Slot) :
    ((s.elapse k).setSlot n { (s.elapse k).slot n with seat := .identifyWait, timer := none }).slot m =
      if m = n then { s.slot n with seat := .identifyWait, timer := none } else (s.slot m).elapse k := by
  rw [State.slot_setSlot, State.elapse_slot, State.elapse_slot]
  by_cases h : m = n
  · subst h
    simp [SlotRecord.elapse]
  · simp [h, Ne.symm h]

theorem SlotRecord.elapse_eq (r : SlotRecord) (k : Nat) :
    r.elapse k = { r with timer := r.timer.map fun j => if k < j then j - k else 1 } := by
  have hleft : (fun j => max 1 (j - k)) = fun j => if k < j then j - k else 1 := by
    funext j
    split <;> omega
  rw [SlotRecord.elapse, hleft]

/-- Settles O23. -/
theorem settleExpiryMakesAnIdentifyCandidate : Obligations.SettleExpiryMakesAnIdentifyCandidate := by
  refine fun s n => ⟨fun k hseat htimer => ?_, fun hseat => ?_⟩
  · have hslot := s.slot_setSlot_expired k n
    refine ⟨(s.elapse k).setSlot n { (s.elapse k).slot n with seat := .identifyWait, timer := none }, ?_, rfl,
      by rw [hslot, if_pos rfl], fun m hm => by rw [hslot, if_neg hm, SlotRecord.elapse_eq]⟩
    show Host.Outcome.next (s.settleExpiry n) = _
    rw [State.settleExpiry, if_pos hseat, htimer, ← react_elapse s k]
    rfl
  · show Host.Outcome.next (s.settleExpiry n) = _
    rw [State.settleExpiry, if_neg hseat]

/-- Settles O24. -/
theorem seatLinesSettleAndEmptyASlot : Obligations.SeatLinesSettleAndEmptyASlot := by
  intro s n
  have hready : s.ready = true ↔ s.takesAccess := by simp [State.ready]
  refine ⟨fun haccess hseat => ?_, fun haccess hseat => ?_, fun haccess => ?_⟩
  · show Host.Outcome.next (s.seatActive n) = _
    rw [State.seatActive, if_pos ⟨hready.2 haccess, hseat⟩]
    rfl
  · show Host.Outcome.next (s.seatInactive n) = _
    rw [State.seatInactive, if_pos (hready.2 haccess)]
    simp only [hseat]
    rfl
  · have hnot : ¬(s.ready = true) := fun h => haccess (hready.1 h)
    have hinactive : s.seatInactive n = { s with lines := s.lines.unseat n } := by rw [State.seatInactive, if_neg hnot]
    refine ⟨?_, congrArg Host.Outcome.next hinactive, congrArg Host.Outcome.next hinactive⟩
    show Host.Outcome.next (s.seatActive n) = _
    rw [State.seatActive, if_neg fun h => hnot h.1]

/-! ## Plain writes -/

theorem State.ready_of_not_takesAccess {s : State} (h : ¬s.takesAccess) : s.ready = false := by
  simpa [State.ready, State.takesAccess] using h

/-- Settles O39: each field as a number is the digits of the word. -/
theorem plainWritesSetTheirFields : Obligations.PlainWritesSetTheirFields := by
  intro s w haccess
  have hready := State.ready_of_takesAccess haccess
  have hword := w.isLt
  refine ⟨?_, ?_, ?_, ?_⟩
  · show Host.Outcome.next (s.writeTiming w) = _
    rw [State.writeTiming, if_pos hready]
    have hsettle : max 1 (w.extractLsb' 8 8).toNat = if w.toNat / 256 = 0 then 1 else w.toNat / 256 := by
      rw [toNat_field]
      split <;> omega
    have hwindow : max 1 (w.extractLsb' 0 6).toNat = if w.toNat % 64 = 0 then 1 else w.toNat % 64 := by
      rw [toNat_field]
      split <;> omega
    rw [timingOfWord, hsettle, hwindow]
  · show Host.Outcome.next (s.writeStatus w) = _
    rw [State.writeStatus, if_pos hready]
    have hclear : ∀ (flag : Bool) (i : Nat),
        (flag && !w.getLsbD i) = if w.toNat / 2 ^ i % 2 = 1 then false else flag := fun flag i => by
      rw [getLsbD_eq_decide]
      split <;> simp_all
    rw [hclear, hclear]
    simp
  · show Host.Outcome.next (s.writePointer w) = _
    rw [State.writePointer, if_pos hready, pointerOfWord, slotOfBits_field]
    have hoffset : w.extractLsb' 0 12 = BitVec.ofNat 12 w.toNat := BitVec.eq_of_toNat_eq (by simp)
    rw [hoffset]
    rfl
  · show Host.Outcome.next (s.writeSlotSelect w) = _
    rw [State.writeSlotSelect, if_pos hready, slotOfBits_field]
    simp

/-- An address with no writable register drops the write (R139, R140). -/
theorem State.hostWrite_dropped (s : State) (a : BitVec 5) (w : Word)
    (h : (6 ≤ a.toNat ∧ a.toNat ≤ 13) ∨ a.toNat = 16 ∨ 18 ≤ a.toNat) : s.hostWrite a w = s := by
  unfold State.hostWrite
  split <;> first | omega | rfl

/-- Settles O40. -/
theorem registerWriteSetsOperandsOrIsDropped : Obligations.RegisterWriteSetsOperandsOrIsDropped := by
  intro s a w haccess
  have hready := State.ready_of_takesAccess haccess
  refine ⟨?_, ?_, fun h => congrArg Host.Outcome.next (s.hostWrite_dropped a w h)⟩
  · show Host.Outcome.next (s.writeOpa w) = _
    rw [State.writeOpa, if_pos hready]
  · show Host.Outcome.next (s.writeOpb w) = _
    rw [State.writeOpb, if_pos hready]

/-! ## The command unit -/

/-- Settles O43. -/
theorem unknownCommandCompletesBadOperand : Obligations.UnknownCommandCompletesBadOperand := by
  intro s w ⟨hrstin, hstarting, hidle⟩ hword
  show Host.Outcome.next (s.writeCommand w) = _
  rw [State.writeCommand, if_neg (by simp [hrstin]), if_neg (by simp [hstarting, hidle]), commandOf_eq_none hword]
  rfl

/-- A host command is a write of COMMAND (R148). -/
theorem exec_hostCommand {i : Instr} {w : Word} (h : i ∈ hostCommands ∨ i = .unknownCommand w) :
    ∃ word, ∀ s : State, exec i s = .next (s.writeCommand word) := by
  rcases h with h | rfl
  · obtain ⟨c, rfl⟩ : ∃ c : Command, i = c.row := by
      simp only [hostCommands, List.mem_cons, List.not_mem_nil, or_false] at h
      obtain rfl | rfl | rfl | rfl | rfl | rfl | rfl | rfl | rfl | rfl | rfl | rfl | rfl | rfl := h
      exacts [⟨.setMode, rfl⟩, ⟨.reidentify, rfl⟩, ⟨.setOrder, rfl⟩, ⟨.hold, rfl⟩, ⟨.resume, rfl⟩,
        ⟨.takeAttention, rfl⟩, ⟨.retire, rfl⟩, ⟨.openContext, rfl⟩, ⟨.arm, rfl⟩, ⟨.abort, rfl⟩, ⟨.close, rfl⟩,
        ⟨.unfence, rfl⟩, ⟨.nextEvent, rfl⟩, ⟨.busReset, rfl⟩]
    exact ⟨c.code, exec_command_row c⟩
  · exact ⟨w, fun _ => rfl⟩

/-- Settles O44. -/
theorem writesAreTurnedAway : Obligations.WritesAreTurnedAway := by
  intro s i w hi
  obtain ⟨word, hexec⟩ := exec_hostCommand hi
  rw [hexec]
  refine ⟨fun hrstin => ?_, fun hrstin hbusy => ?_, fun haccess => ?_⟩
  · rw [State.writeCommand, if_pos hrstin]
  · rw [State.writeCommand, if_neg (by simp [hrstin]), if_pos (hbusy.imp id Option.isSome_iff_ne_none.2)]
  · have hready := State.ready_of_not_takesAccess haccess
    simp [exec, execControlWrite, execTimingWrite, execStatusWrite, execStorePointerWrite, execStoreDataWrite,
      execSlotSelectWrite, execRegisterWrite, execStoreDataRead, State.hostWrite, State.writeControl, State.writeTiming,
      State.writeStatus, State.writePointer, State.writeStoreData, State.writeSlotSelect, State.writeOpa, State.writeOpb,
      State.readStoreData, hready]

end Sys2Proof.Machine
end

section
/-! SUPPORT. Parity, and how a burst goes on and ends: by its words, by a STOP, and by an error (R28, R33 to R36, R115,
R120). -/

namespace Sys2Proof.Machine

/-! ## Parity -/

/-- Bits put together by exclusive or are the parity of their number. -/
theorem foldl_xor_eq (f : Nat → Bool) (l : List Nat) (acc : Bool) :
    l.foldl (fun acc i => acc ^^ f i) acc = (acc ^^ decide (l.countP f % 2 = 1)) := by
  induction l generalizing acc with
  | nil => simp
  | cons i l ih =>
    rw [List.foldl_cons, ih, List.countP_cons]
    rcases Nat.mod_two_eq_zero_or_one (l.countP f) with h | h <;> cases acc <;> cases f i <;>
      simp [h, Nat.add_mod]

/-- The ones of a byte of a word, by their number. -/
theorem oddOnes_field (w : Word) (k : Nat) :
    oddOnes (w.extractLsb' k 8) = decide ((List.range 8).countP (fun i => w.getLsbD (i + k)) % 2 = 1) := by
  have hbits : (List.range 8).countP (fun i => (w.extractLsb' k 8).getLsbD i) =
      (List.range 8).countP (fun i => w.getLsbD (i + k)) := by
    refine List.countP_congr fun i hi => ?_
    have hlt : i < 8 := List.mem_range.1 hi
    simp [hlt, Nat.add_comm]
  unfold oddOnes
  rw [← hbits, ← Bool.false_xor (decide _)]
  exact foldl_xor_eq _ (List.range 8) false

/-- A byte with its parity line holds an odd number of ones (R28). -/
theorem xor_eq_true_iff (c q : Nat) (hq : q < 2) :
    (decide (c % 2 = 1) ^^ decide (q = 1)) = true ↔ (c + q) % 2 = 1 := by
  rcases Nat.mod_two_eq_zero_or_one c with h | h <;> interval_cases q <;> simp [h, Nat.add_mod]

/-- The parity check as the parity lines the part drives (R28). -/
theorem parityGood_iff_eq (w : Word) (p : BitVec 2) : parityGood w p = true ↔ p = parityOf w := by
  unfold parityGood parityOf
  generalize oddOnes (w.extractLsb' 8 8) = high
  generalize oddOnes (w.extractLsb' 0 8) = low
  revert high low p
  decide

/-- Settles O36, by the number of ones in each byte. -/
theorem parityIsOddInEachByte : Obligations.ParityIsOddInEachByte := by
  refine fun w p => ⟨?_, parityGood_iff_eq w p⟩
  have hlow : p.getLsbD 0 = decide (p.toNat % 2 = 1) := by
    rw [BitVec.getLsbD, Nat.testBit_eq_decide_div_mod_eq, Nat.pow_zero, Nat.div_one]
  have hhigh : p.getLsbD 1 = decide (p.toNat / 2 = 1) := by
    have hp := p.isLt
    have hdigit : p.toNat / 2 ^ 1 % 2 = p.toNat / 2 := by omega
    rw [BitVec.getLsbD, Nat.testBit_eq_decide_div_mod_eq, hdigit]
  have hp := p.isLt
  rw [parityGood, Bool.and_eq_true, oddOnes_field, oddOnes_field, hlow, hhigh, xor_eq_true_iff _ _ (by omega),
    xor_eq_true_iff _ _ (by omega)]
  exact and_comm

/-! ## An ACKNOWLEDGE error -/

/-- A slot record once an error has been recorded and counted (R115, R116). -/
def SlotRecord.erred (r : SlotRecord) (e : LastError) : SlotRecord :=
  { r with errorCount := if r.errorCount < 15 then r.errorCount + 1 else 15, lastError := some e }

theorem State.countError_erred {s : State} {n : Slot} (h : (s.slot n).seat = .online ∨ (s.slot n).seat = .fenced)
    (e : LastError) : s.countError n e = { s with slots := s.slots.set n ((s.slot n).erred e) } :=
  s.countError_eq n e h

theorem State.slot_set_self (s : State) (n : Slot) (r : SlotRecord) :
    State.slot { s with slots := s.slots.set n r } n = r := (vector_get_set _ n n r).trans (if_pos rfl)

theorem State.context_set_self (s : State) (n : Slot) (c : Context) :
    State.context { s with contexts := s.contexts.set n c } n = c := (vector_get_set _ n n c).trans (if_pos rfl)

/-- An ACKNOWLEDGE error counted and judged (R115, R116, R120). -/
theorem State.endAcknowledge_error {s : State} {o : Operation} (hk : o.kind = .acknowledge)
    (hseat : (s.slot o.slot).seat = .online ∨ (s.slot o.slot).seat = .fenced) (kind : ErrorKind) :
    s.endAcknowledge o (.error kind) =
      if ((s.slot o.slot).erred ⟨kind, .acknowledge, 0⟩).fencedAt s.control.threshold then
        State.operationEnd { s with
          op := none
          slots := s.slots.set o.slot { (s.slot o.slot).erred ⟨kind, .acknowledge, 0⟩ with seat := .fenced }
          contexts := s.contexts.set o.slot { s.context o.slot with
            transfer := (s.context o.slot).transfer.map fun x => x.haltIfArmed .fenced }
          events := insertSeat o.slot (.fenced (some kind)) (s.events ++ s.haltEntries o.slot .fenced) }
          .acknowledge o.slot
      else
        State.operationEnd { s with
          op := none, slots := s.slots.set o.slot ((s.slot o.slot).erred ⟨kind, .acknowledge, 0⟩) } .acknowledge o.slot := by
  rw [State.endAcknowledge, State.acknowledgeOutcome, State.countError_erred (by exact hseat), State.judge_eq,
    State.slot_set_self, hk]
  by_cases hfenced : ((s.slot o.slot).erred ⟨kind, .acknowledge, 0⟩).fencedAt s.control.threshold = true
  · rw [if_pos hfenced, if_pos (by exact hfenced), Vector.set_set]
    rfl
  · rw [if_neg hfenced, if_neg (by exact hfenced)]
    rfl

/-- Settles O31: each error ends the ACKNOWLEDGE with its outcome, which is counted and judged. -/
theorem acknowledgeErrorIsCounted : Obligations.AcknowledgeErrorIsCounted := by
  intro s o ho hk hseat n erred
  have herror : ∀ kind, react s (s.endAcknowledge o (.error kind)) = erred kind := fun kind => by
    rw [State.endAcknowledge_error hk hseat]
    exact apply_ite (react s) _ _ _
  refine ⟨fun hp => ?timeout, fun hp hh data parity => ⟨?fault, fun hbad => ?parity⟩⟩
  case timeout =>
    rw [exec_responseWindowExpiry_of_no_answer ho hp, ← herror]
    simp [State.timeout, hk]
  case fault =>
    rw [exec_replyTaken_of_acknowledge ho hk hp hh (r := .fault) rfl, ← herror]
    rfl
  case parity =>
    rw [exec_replyTaken_of_acknowledge ho hk hp hh (r := .take) rfl, ← herror, hbad]
    rfl

/-! ## A burst's word cycle from its reply to its end -/

/-- An answered word cycle of a burst ends as a burst word cycle (R35). -/
theorem State.endWord_of_burst (s : State) {o : Operation} {b : Burst} (hk : o.kind = .burst b) (a : Answer) :
    s.endWord o a = s.endBurstWord o b a := by
  simp [State.endWord, hk]

/-- The end of a burst word cycle that moved no word does not look at the phase it stood in (R35). -/
theorem State.endBurstWord_of_op (s : State) (o : Operation) (p : WordPhase) (op : Option Operation) (b : Burst)
    {a : Answer} (hkept : a.moves b.direction = false) :
    State.endBurstWord { s with op := op } { o with phase := p } b a = s.endBurstWord o b a := by
  obtain ⟨reply, data, good⟩ := a
  cases reply with
  | take =>
    unfold State.endBurstWord
    simp only [hkept]
    rfl
  | stop => rfl
  | fault => rfl

/-- A reply that moves no burst word, no release held, ends its word cycle at once (R27, R35). -/
theorem exec_replyTaken_of_burst_kept {s : State} {o : Operation} {b : Burst} {lines : BitVec 2} {r : Reply}
    (ho : s.op = some o) (hk : o.kind = .burst b) (hp : o.phase = .strobed) (hh : s.releaseHeld = false)
    (hr : replyOfLines lines = some r) {data : Word} {parity : BitVec 2}
    (hkept : Answer.moves ⟨r, data, parityGood data parity⟩ b.direction = false) :
    exec (.replyTaken lines data parity) s =
      .next (react s (s.endBurstWord o b ⟨r, data, parityGood data parity⟩)) := by
  have hkept' : ∀ b', o.kind = .burst b' → Answer.moves ⟨r, data, parityGood data parity⟩ b'.direction = false := by
    intro b' hb'
    obtain rfl : b = b' := by simpa [hk] using hb'
    exact hkept
  rw [exec_replyTaken_of_strobed ho hp hh hr, State.takeReply_of_kept s o _ hkept', State.finishWord_of_answer rfl rfl,
    State.endWord_of_burst (b := b) _ (by exact hk), State.endBurstWord_of_op _ _ _ _ _ hkept]

/-- The burst and its operation once a reply has moved a word (R33, R34). -/
def Burst.counted (b : Burst) : Burst := { b with moved := b.moved + 1 }

def Operation.answered (o : Operation) (b : Burst) (a : Answer) : Operation :=
  { o with kind := .burst b.counted, phase := .answered a }

/-- A reply that moves a burst word (R33, R34). -/
theorem State.takeReply_moved {s : State} {o : Operation} {b : Burst} {a : Answer} (hk : o.kind = .burst b)
    (hmoves : a.moves b.direction = true) :
    s.takeReply o a = { s.moveWord o.slot b.direction a.data with op := some (o.answered b a) } :=
  State.takeReply_of_moved s o a b hk hmoves

/-- TAKE with good parity, or in a BURST_OUT, moves a word (R28). -/
theorem Answer.moves_take {b : Burst} {data : Word} {good : Bool} (h : b.direction = .output ∨ good = true) :
    Answer.moves ⟨.take, data, good⟩ b.direction = true := by
  rcases h with h | h <;> simp [Answer.moves, h]

/-- Where TAKE has moved a word, its word cycle ends as that of a word moved (R35, R36). -/
theorem State.endBurstWord_of_moved (s : State) (o : Operation) {b : Burst} {a : Answer} (htake : a.reply = .take)
    (hmoves : a.moves b.direction = true) : s.endBurstWord o b a = s.afterWord o b := by
  simp [State.endBurstWord, htake, hmoves]

/-- A reply that moves a burst word, no release held, ends its word cycle at once (R25, R35, R36). -/
theorem exec_replyTaken_of_burst_moved {s : State} {o : Operation} {b : Burst} (ho : s.op = some o)
    (hk : o.kind = .burst b) (hp : o.phase = .strobed) (hh : s.releaseHeld = false) {data : Word} {parity : BitVec 2}
    (hgood : b.direction = .output ∨ parityGood data parity = true) :
    exec (.replyTaken 1#2 data parity) s =
      .next (react s (State.afterWord
        { s.moveWord o.slot b.direction data with op := some (o.answered b ⟨.take, data, parityGood data parity⟩) }
        (o.answered b ⟨.take, data, parityGood data parity⟩) b.counted)) := by
  have hmoves := Answer.moves_take (data := data) hgood
  rw [exec_replyTaken_of_strobed ho hp hh (r := .take) rfl, State.takeReply_moved hk hmoves,
    State.finishWord_of_answer rfl rfl, State.endWord_of_burst (b := b.counted) _ rfl,
    State.endBurstWord_of_moved (b := b.counted) _ _ rfl hmoves]

/-- A reply whose release is held stands in phase 4 (R25, log 12). -/
theorem exec_replyTaken_of_held {s : State} {o : Operation} {lines : BitVec 2} {r : Reply} (ho : s.op = some o)
    (hp : o.phase = .strobed) (hh : s.releaseHeld = true) (hr : replyOfLines lines = some r) (data : Word)
    (parity : BitVec 2) :
    exec (.replyTaken lines data parity) s = .next (s.takeReply o ⟨r, data, parityGood data parity⟩) := by
  simp [exec, execReplyTaken, ho, hp, hh, hr]

/-- A step on an empty queue from phase 5 is the end of the word cycle (R25, log 12). -/
theorem step_of_released {s : State} {o : Operation} {b : Burst} {a : Answer} (hq : s.pending = [])
    (ho : s.op = some o) (hk : o.kind = .burst b) (hp : o.phase = .released a) :
    step s = .next (react s (s.endBurstWord o b a)) := by
  rw [← State.endWord_of_burst s hk, ← State.idle_of_released ho hp]
  simp only [step, hq]

/-- Where a word was moved short of the size and with no end asked for, the next word cycle begins (R25, R26, R33). -/
theorem State.afterWord_of_short {s : State} {o : Operation} {b : Burst} {x : Transfer} (hk : o.kind = .burst b)
    (hx : (s.context o.slot).transfer = some x) (hsize : b.moved < b.size) (hboundary : b.boundary = false) :
    s.afterWord o b = { s with op := some { o with
      kind := .burst { b with driven := if b.direction = .output then (x.address x.moved).map s.store.read else none }
      index := o.index + 1, window := s.timing.responseWindow, phase := .begun } } := by
  have hnot : ¬b.size ≤ b.moved := by omega
  simp only [State.afterWord, hnot, hboundary, if_false, Bool.false_eq_true, State.beginWord, hk, State.drive_burst s hx]

/-- Where a word was moved up to the size, or to the boundary asked for, the burst ends without error (R35, R36). -/
theorem State.afterWord_of_end {s : State} {o : Operation} {b : Burst} (h : b.size ≤ b.moved ∨ b.boundary = true) :
    s.afterWord o b = s.endBurst o .sizeReached := by
  unfold State.afterWord
  split
  · rfl
  · rw [if_pos (h.resolve_left ‹_›)]
    rfl

/-- Settles O32: the word is moved with the reply, and with its end the next word cycle begins. -/
theorem burstWordIsMoved : Obligations.BurstWordIsMoved := by
  intro s o b x a data parity ho hk hp hx harmed ha hshort hgood moved
  have hgood' : b.direction = .output ∨ parityGood data parity = true := by
    cases hd : b.direction with
    | input => exact .inr (hgood hd)
    | output => exact .inl rfl
  have hmove := State.moveWord_short s o.slot b.direction data x a hx harmed ha (by omega)
  refine ⟨fun hh => ?held, fun hh hsize hboundary => ?ended⟩
  case held =>
    rw [exec_replyTaken_of_held ho hp hh (r := .take) rfl, State.takeReply_moved hk (Answer.moves_take hgood'), hmove]
    rfl
  case ended =>
    let t := moved (o.answered b ⟨.take, data, parityGood data parity⟩)
    have hstate : { s.moveWord o.slot b.direction data with
        op := some (o.answered b ⟨.take, data, parityGood data parity⟩) } = t := by rw [hmove]
    have hx' : (t.context o.slot).transfer = some { x with moved := x.moved + 1 } :=
      congrArg Context.transfer (State.context_set_self _ _ _)
    rw [exec_replyTaken_of_burst_moved ho hk hp hh hgood', hstate,
      State.afterWord_of_short (b := b.counted) rfl (by exact hx') hsize hboundary, react_of_operation rfl]
    cases hd : b.direction <;> simp [t, moved, hd, Burst.counted, Operation.answered, Transfer.address]

/-! ## How a burst ends -/

/-- The ends of a burst that are no error (R35). -/
def EndCause.noError : EndCause → Prop
  | .error _ _ => False
  | .sizeReached => True
  | .cardStop => True
  | .boundary => True

/-- Without an error the count is judged as it stands (R122). -/
theorem State.endBurst_of_noError (s : State) (o : Operation) {cause : EndCause} (h : cause.noError) :
    s.endBurst o cause =
      ((State.judge { s with op := none } o.slot none).settleAbort o.slot).operationEnd o.kind o.slot := by
  cases cause with
  | error kind index => exact h.elim
  | sizeReached => rfl
  | cardStop => rfl
  | boundary => rfl

/-- A burst of an ARMED context that ends without error (R101, R108, R122). -/
theorem State.endBurst_of_armed {s : State} {o : Operation} {x : Transfer} (hx : (s.context o.slot).transfer = some x)
    (harmed : x.phase = .armed) {cause : EndCause} (h : cause.noError) :
    s.endBurst o cause = (State.burstSettled { s with op := none } o.slot x none).operationEnd o.kind o.slot := by
  rw [State.endBurst_of_noError s o h, State.judge_settleAbort_eq _ _ x _ (by exact hx) harmed]

/-- A burst of an ARMED context that ends with an error, its slot ONLINE (R108, R115, R116, R120). -/
theorem State.endBurst_error {s : State} {o : Operation} {x : Transfer} (hx : (s.context o.slot).transfer = some x)
    (harmed : x.phase = .armed) (honline : (s.slot o.slot).seat = .online) (kind : ErrorKind) (index : Nat) :
    s.endBurst o (.error kind index) =
      (State.burstSettled { s with
        op := none, slots := s.slots.set o.slot ((s.slot o.slot).erred ⟨kind, .burst, index⟩) }
        o.slot x (some kind)).operationEnd o.kind o.slot := by
  rw [State.endBurst, State.burstOutcome, State.countError_erred (by exact .inl honline),
    State.judge_settleAbort_eq _ _ x _ (by exact hx) harmed]
  rfl

/-- Settles O34: a STOP, and the word that reaches size or boundary, end the burst with its context ARMED. -/
theorem burstEndsWithoutError : Obligations.BurstEndsWithoutError := by
  intro s o b x data parity good ho hk hx harmed ended
  have hended : ∀ cause : EndCause, cause.noError → react s (s.endBurst o cause) = ended := fun cause h => by
    rw [State.endBurst_of_armed hx harmed h]
  refine ⟨fun hp hh => ⟨?stop, fun a ha hshort hend hgood => ?word⟩,
    fun hq => ⟨fun hp => ?stopReleased, fun hp hend hgood => ?wordReleased⟩⟩
  case stop =>
    rw [exec_replyTaken_of_burst_kept ho hk hp hh (r := .stop) rfl rfl, ← hended .cardStop trivial]
    rfl
  case word =>
    have hmove := State.moveWord_short s o.slot b.direction data x a hx harmed ha (by omega)
    have hend' : b.counted.size ≤ b.counted.moved ∨ b.counted.boundary = true := hend.imp_left fun h => h.ge
    rw [exec_replyTaken_of_burst_moved ho hk hp hh hgood, State.afterWord_of_end hend', hmove,
      State.endBurst_of_armed (x := { x with moved := x.moved + 1 })
        (by exact congrArg Context.transfer (State.context_set_self _ _ _)) harmed (cause := .sizeReached) trivial, hk]
    rfl
  case stopReleased =>
    rw [step_of_released hq ho hk hp, ← hended .cardStop trivial]
    rfl
  case wordReleased =>
    rw [step_of_released hq ho hk hp, State.endBurstWord_of_moved _ _ rfl (Answer.moves_take hgood),
      State.afterWord_of_end (hend.imp_left fun h => h.ge), hended .sizeReached trivial]

/-- A word of a BURST_IN with bad parity is not moved (R28). -/
theorem Answer.moves_bad {d : Direction} {data : Word} (h : d = .input) : Answer.moves ⟨.take, data, false⟩ d = false := by
  subst h
  rfl

/-- Settles O35: each error ends the burst at its word index. -/
theorem burstErrorIsCounted : Obligations.BurstErrorIsCounted := by
  intro s o b x data parity good ho hk hx harmed honline erred
  have herror : ∀ kind, react s (s.endBurst o (.error kind o.index)) = erred kind := fun kind => by
    rw [State.endBurst_error hx harmed honline]
    rfl
  have hparity : ∀ data, b.direction = .input →
      s.endBurstWord o b ⟨.take, data, false⟩ = s.endBurst o (.error .parity o.index) := fun data hd => by
    simp [State.endBurstWord, Answer.moves_bad hd]
  refine ⟨fun hp => ?timeout, fun hp hh => ⟨?fault, fun hd hbad => ?parity⟩,
    fun hq => ⟨fun hp => ?faultReleased, fun hp hd => ?parityReleased⟩⟩
  case timeout =>
    rw [exec_responseWindowExpiry_of_no_answer ho hp, ← herror]
    simp [State.timeout, hk]
  case fault =>
    rw [exec_replyTaken_of_burst_kept ho hk hp hh (r := .fault) rfl rfl, ← herror]
    rfl
  case parity =>
    rw [exec_replyTaken_of_burst_kept ho hk hp hh (r := .take) rfl (by rw [hbad]; exact Answer.moves_bad hd), hbad,
      hparity data hd, herror]
  case faultReleased =>
    rw [step_of_released hq ho hk hp, ← herror]
    rfl
  case parityReleased => rw [step_of_released hq ho hk hp, hparity data hd, herror]

/-! ## The last word of a transfer -/

/-- A burst whose context is DONE ends with no fence, and an ABORT that waited completes ALREADY_DONE (R100, R108). -/
theorem State.endBurst_of_done {s : State} {o : Operation} {x : Transfer} (hx : (s.context o.slot).transfer = some x)
    (hdone : x.phase = .done) (hcount : (s.slot o.slot).errorCount = 0) (hthreshold : 1 ≤ s.control.threshold)
    {cause : EndCause} (h : cause.noError) :
    s.endBurst o cause = State.operationEnd { s with
      op := none
      contexts := s.contexts.set o.slot { s.context o.slot with abortPending := false }
      cmd := if (s.context o.slot).abortPending then
               { s.cmd with executing := none, result := .alreadyDone, resultData := BitVec.ofNat 16 x.count }
             else s.cmd } o.kind o.slot := by
  have hfence : (s.slot o.slot).fencedAt s.control.threshold = false := by
    have : ¬s.control.threshold ≤ (s.slot o.slot).errorCount := by omega
    simp [SlotRecord.fencedAt, this]
  rw [State.endBurst_of_noError s o h, State.judge_eq, if_neg (by exact ne_true_of_eq_false hfence)]
  cases habort : (s.context o.slot).abortPending with
  | false =>
    have hkeep : s.contexts.set o.slot { s.context o.slot with abortPending := false } = s.contexts := by
      rw [← habort]
      exact s.set_context_self o.slot
    rw [State.settleAbort_of_clear _ _ (by exact habort), hkeep, if_neg (by decide)]
  | true =>
    rw [State.settleAbort_of_ended _ _ x (by exact habort) (by exact hx) (.inl hdone), if_pos rfl, if_pos hdone,
      if_pos hdone, ← hx]

/-- An event that finds the bus in use leads to a choice where it has freed the bus, and to none otherwise (R53). -/
theorem react_of_busy {before : State} (h : before.busFree = false) (after : State) : react before after = after.choose := by
  cases hfree : after.busFree with
  | true => simp [react, choiceDue, h, hfree]
  | false =>
    have hnot : after.mayChoose = false := by simp [State.mayChoose, hfree]
    rw [react_of_not_mayChoose hnot]
    simp [State.choose, hnot]

theorem State.busFree_of_operation {s : State} {o : Operation} (ho : s.op = some o) : s.busFree = false := by
  simp [State.busFree, ho]

/-- Settles O33: the reply makes the transfer DONE, and the end of its word cycle ends the burst. -/
theorem lastWordMakesTheTransferDone : Obligations.LastWordMakesTheTransferDone := by
  intro s o b x a data parity ho hk hp hx harmed ha hlast hsize hthreshold hgood done ended
  let y : Transfer := { x with moved := x.count, phase := .done }
  have hstate : { s.moveWord o.slot b.direction data with
      op := some (o.answered b ⟨.take, data, parityGood data parity⟩) } = done := by
    rw [State.moveWord_last s o.slot b.direction data x a hx harmed ha hlast]
    rfl
  have hy : done.context o.slot = { s.context o.slot with transfer := some y } := State.context_set_self _ _ _
  have hzero : (done.slot o.slot).errorCount = 0 := congrArg SlotRecord.errorCount (State.slot_set_self _ _ _)
  have hended : ∀ b' p op,
      State.choose (State.endBurst { done with op := op } { o with kind := .burst b', phase := p } .sizeReached) = ended := by
    intro b' p op
    have hpending : (done.context o.slot).abortPending = (s.context o.slot).abortPending := by rw [hy]
    rw [State.endBurst_of_done (s := { done with op := op }) (o := { o with kind := .burst b', phase := p }) (x := y)
      (congrArg Context.transfer hy) rfl hzero hthreshold (cause := .sizeReached) trivial]
    simp only [ended]
    rw [react_of_busy (State.busFree_of_operation ho), hk, ← hpending]
    rfl
  refine ⟨fun hh => ?_, fun hh => ⟨?_, fun hq => ⟨done.releaseWord (o.answered b ⟨.take, data, parityGood data parity⟩)
    ⟨.take, data, parityGood data parity⟩, ?_, ?_⟩⟩⟩
  · rw [exec_replyTaken_of_burst_moved ho hk hp hh hgood, hstate, State.afterWord_of_end (.inl (by exact hsize.ge)),
      react_of_busy (State.busFree_of_operation ho)]
    exact congrArg _ (hended _ _ done.op)
  · rw [exec_replyTaken_of_held ho hp hh (r := .take) rfl, State.takeReply_moved hk (Answer.moves_take hgood), hstate]
  · have hidle := State.idle_of_answered (s := done) (o := o.answered b ⟨.take, data, parityGood data parity⟩) rfl rfl
    simp only [step, show done.pending = [] from hq, hidle]
  · rw [step_of_released (s := done.releaseWord (o.answered b ⟨.take, data, parityGood data parity⟩) _)
        (b := { b.counted with driven := none }) hq rfl rfl rfl,
      State.endBurstWord_of_moved (b := { b.counted with driven := none }) _ _ rfl (Answer.moves_take hgood),
      State.afterWord_of_end (.inl (by exact hsize.ge)), react_of_busy (State.busFree_of_operation rfl)]
    exact congrArg _ (hended _ _ _)

end Sys2Proof.Machine
end

section
/-! SUPPORT. A CONTROL write: its fields, and the slots at or above the threshold it sets (R36, R121, R144). -/

namespace Sys2Proof.Machine

/-! ## The fields of CONTROL -/

/-- CONTROL as taken, field by field, is CONTROL as the word's numbers give it (R144). -/
theorem controlOfWord_eq_takenControl (w : Word) : controlOfWord w = takenControl w := by
  have hword := w.isLt
  have hattention : w.getLsbD 15 = decide (w.toNat / 32768 = 1) := by
    have hdigit : w.toNat / 2 ^ 15 % 2 = w.toNat / 32768 := by omega
    rw [getLsbD_eq_decide, hdigit]
  have hthreshold : max 1 (w.extractLsb' 8 4).toNat =
      if w.toNat / 256 % 16 = 0 then 1 else w.toNat / 256 % 16 := by
    rw [toNat_field]
    split <;> omega
  have hdepth : min 8 (max 1 (w.extractLsb' 0 4).toNat) =
      if w.toNat % 16 = 0 then 1 else if 8 < w.toNat % 16 then 8 else w.toNat % 16 := by
    rw [toNat_field]
    split
    · omega
    · split <;> omega
  rw [controlOfWord, hattention, getLsbD_eq_decide, getLsbD_eq_decide, hthreshold, hdepth]
  simp [takenControl]

/-- A CONTROL write taken (R121, R144). -/
theorem exec_controlWrite {s : State} (h : s.takesAccess) (w : Word) :
    exec (.controlWrite w) s = .next (react s (State.applyThresholds { s with control := takenControl w })) := by
  rw [← controlOfWord_eq_takenControl]
  exact congrArg Host.Outcome.next (if_pos (State.ready_of_takesAccess h))

/-! ## One slot -/

theorem SlotRecord.fencedAt_iff (r : SlotRecord) (k : Nat) : r.fencedAt k = true ↔ r.seat = .online ∧ k ≤ r.errorCount := by
  simp [SlotRecord.fencedAt]

/-- The slot is at or above the threshold (R118). -/
abbrev State.reached (s : State) (n : Slot) : Bool := (s.slot n).fencedAt s.control.threshold

/-- A threshold write at a slot below the threshold does nothing (R121). -/
theorem State.applyThreshold_of_below {s : State} {n : Slot} (h : s.reached n = false) : s.applyThreshold n = s :=
  if_neg fun hr => ne_true_of_eq_false h ((SlotRecord.fencedAt_iff _ _).2 hr)

/-- A threshold write at a slot at or above the threshold (R121). -/
theorem State.applyThreshold_of_reached {s : State} {n : Slot} (h : s.reached n = true) :
    s.applyThreshold n = if s.burstInFlight n then s.requestBoundary n else s.judge n none :=
  if_pos ((SlotRecord.fencedAt_iff _ _).1 h)

theorem State.foldl_applyThreshold_of_below (l : List Slot) (s : State) (h : ∀ n ∈ l, s.reached n = false) :
    l.foldl State.applyThreshold s = s := by
  induction l with
  | nil => rfl
  | cons n l ih =>
    rw [List.foldl_cons, State.applyThreshold_of_below (h n List.mem_cons_self)]
    exact ih fun m hm => h m (List.mem_cons_of_mem _ hm)

/-- A threshold write where one slot alone is at or above the threshold (R121). -/
theorem State.applyThresholds_of_one {s : State} {n : Slot} (hbefore : ∀ m, m ≠ n → s.reached m = false)
    (hafter : ∀ m, m ≠ n → (s.applyThreshold n).reached m = false) : s.applyThresholds = s.applyThreshold n := by
  obtain ⟨before, after, hsplit⟩ := List.append_of_mem (mem_allSlots n)
  have hnodup : (before ++ n :: after).Nodup := hsplit ▸ (by decide : allSlots.Nodup)
  obtain ⟨-, hrest, hdisjoint⟩ := List.nodup_append.1 hnodup
  have hne : ∀ m ∈ before, m ≠ n := fun m hm => hdisjoint m hm n List.mem_cons_self
  have hne' : ∀ m ∈ after, m ≠ n := fun m hm e => (List.nodup_cons.1 hrest).1 (e ▸ hm)
  unfold State.applyThresholds
  rw [hsplit, List.foldl_append, List.foldl_cons,
    State.foldl_applyThreshold_of_below before s fun m hm => hbefore m (hne m hm),
    State.foldl_applyThreshold_of_below after _ fun m hm => hafter m (hne' m hm)]

/-- Settles O38: the other slots are below the threshold before and after, so that the one slot's part is all. -/
theorem thresholdWriteEndsABurstAtTheBoundary : Obligations.ThresholdWriteEndsABurstAtTheBoundary := by
  intro s w o b x haccess ho hk hboundary hx harmed hone
  let c : State := { s with control := takenControl w }
  have hreached : c.reached o.slot = true := (hone o.slot).trans (by simp)
  have hbelow : ∀ m, m ≠ o.slot → c.reached m = false := fun m hm => (hone m).trans (by simpa using hm)
  have happly : c.applyThreshold o.slot = c.requestBoundary o.slot := by
    rw [State.applyThreshold_of_reached hreached, State.burstInFlight_of_burst (s := c) ho hk rfl, if_pos rfl]
  refine ⟨fun hp => ?strobed, fun hp => ?begun⟩
  case strobed =>
    have hrequest := State.requestBoundary_of_strobed (s := c) ho hk rfl hp
    have hafter : ∀ m, m ≠ o.slot → (c.applyThreshold o.slot).reached m = false := fun m hm => by
      rw [happly, hrequest]
      exact hbelow m hm
    rw [exec_controlWrite haccess, State.applyThresholds_of_one hbelow hafter, happly, hrequest]
  case begun =>
    have hrequest : c.requestBoundary o.slot =
        (State.burstSettled { c with op := none } o.slot x none).operationEnd o.kind o.slot := by
      rw [State.requestBoundary_of_begun (s := c) ho hk rfl hp hboundary,
        State.endBurst_of_armed (by exact hx) harmed (cause := .boundary) trivial, hk]
      rfl
    have hafter : ∀ m, m ≠ o.slot → (c.applyThreshold o.slot).reached m = false := fun m hm => by
      rw [happly, hrequest, State.operationEnd_frame]
      have hslot := State.burstSettled_slot_other { c with op := none } hm.symm x none
      exact (congrArg (SlotRecord.fencedAt · _) hslot).trans (hbelow m hm)
    rw [exec_controlWrite haccess, State.applyThresholds_of_one hbelow hafter, happly, hrequest]

/-! ## All slots -/

/-- An operation with the end of its burst asked for (R36). -/
def Operation.asked (o : Operation) : Operation :=
  match o.kind with
  | .burst b => { o with kind := .burst { b with boundary := true } }
  | .identify _ => o
  | .acknowledge => o

/-- The slot is fenced at once by a threshold write (R121). -/
abbrev State.fencesAtOnce (s : State) (n : Slot) : Bool := s.reached n && !s.burstInFlight n

/-- A context with its ARMED transfer halted. -/
def Context.halted (c : Context) (r : HaltReason) : Context := { c with transfer := c.transfer.map fun x => x.haltIfArmed r }

/-- What a threshold write at the slots of a list makes of the part (R36, R121). -/
structure State.fencedTo (s : State) (l : List Slot) (u : State) : Prop where
  frame : u = { s with op := u.op, slots := u.slots, contexts := u.contexts, events := u.events }
  op : u.op = s.op.map fun o => if o.slot ∈ l ∧ s.reached o.slot = true then o.asked else o
  slot : ∀ n, u.slot n = if n ∈ l ∧ s.fencesAtOnce n = true then { s.slot n with seat := .fenced } else s.slot n
  context : ∀ n, u.context n = if n ∈ l ∧ s.fencesAtOnce n = true then (s.context n).halted .fenced else s.context n
  events : u.events = l.foldl (fun es n =>
    if s.fencesAtOnce n then insertSeat n (.fenced none) (es ++ s.haltEntries n .fenced) else es) s.events

theorem Operation.asked_slot (o : Operation) : o.asked.slot = o.slot := by
  unfold Operation.asked
  split <;> rfl

/-- A burst of the slot is in flight (R98). -/
theorem State.burstInFlight_iff (s : State) (n : Slot) :
    s.burstInFlight n = true ↔ ∃ o b, s.op = some o ∧ o.kind = .burst b ∧ o.slot = n := by
  constructor
  · intro h
    rcases ho : s.op with _ | ⟨kind, slot, index, window, phase⟩
    · simp [State.burstInFlight, ho] at h
    · cases kind <;> simp [State.burstInFlight, ho] at h
      exact ⟨_, _, rfl, rfl, h⟩
  · rintro ⟨o, b, ho, hk, hslot⟩
    exact State.burstInFlight_of_burst ho hk hslot

/-- Asking for the end of a burst leaves it in flight. -/
theorem Operation.asked_kind (o : Operation) : (∃ b, o.asked.kind = .burst b) ↔ ∃ b, o.kind = .burst b := by
  unfold Operation.asked
  split <;> simp_all

section

variable {s t u : State} {n : Slot} {l : List Slot}

theorem State.fencedTo.reached_other (h : s.fencedTo [n] t) {m : Slot} (hm : m ≠ n) : t.reached m = s.reached m := by
  have hcontrol : t.control = s.control := by rw [h.frame]
  rw [State.reached, h.slot m, if_neg (by simp [hm]), hcontrol]

/-- A threshold write brings no slot to the threshold. -/
theorem State.fencedTo.reached_of_reached (h : s.fencedTo l t) {m : Slot} (hm : t.reached m = true) :
    s.reached m = true := by
  have hcontrol : t.control = s.control := by rw [h.frame]
  rw [State.reached, h.slot m, hcontrol] at hm
  split at hm
  · simp [SlotRecord.fencedAt] at hm
  · exact hm

theorem State.fencedTo.op_phase (h : s.fencedTo l t) {o : Operation} (ho : t.op = some o) :
    ∃ p, s.op = some p ∧ o.phase = p.phase ∧ o.slot = p.slot := by
  rw [h.op, Option.map_eq_some_iff] at ho
  obtain ⟨p, hp, rfl⟩ := ho
  refine ⟨p, hp, ?_⟩
  split
  · unfold Operation.asked
    split <;> exact ⟨rfl, rfl⟩
  · exact ⟨rfl, rfl⟩

theorem State.fencedTo.haltEntries_other (h : s.fencedTo [n] t) {m : Slot} (hm : m ≠ n) (r : HaltReason) :
    t.haltEntries m r = s.haltEntries m r := by
  rw [State.haltEntries, h.context m, if_neg (by simp [hm])]
  rfl

theorem State.fencedTo.burstInFlight (h : s.fencedTo l t) (m : Slot) : t.burstInFlight m = s.burstInFlight m := by
  rw [Bool.eq_iff_iff, State.burstInFlight_iff, State.burstInFlight_iff, h.op]
  rcases s.op with _ | o
  · simp
  · simp only [Option.map_some, Option.some.injEq]
    split
    · have hkind := o.asked_kind
      constructor
      · rintro ⟨_, b, rfl, hb, hslot⟩
        exact ⟨o, _, rfl, (hkind.1 ⟨b, hb⟩).choose_spec, o.asked_slot ▸ hslot⟩
      · rintro ⟨_, b, rfl, hb, hslot⟩
        exact ⟨o.asked, _, rfl, (hkind.2 ⟨b, hb⟩).choose_spec, o.asked_slot.trans hslot⟩
    · rfl

/-- A threshold write takes its slots one after another (R121). -/
theorem State.fencedTo.cons (h : s.fencedTo [n] t) (hrest : t.fencedTo l u) (hn : n ∉ l) : s.fencedTo (n :: l) u := by
  have hne : ∀ m ∈ l, m ≠ n := fun m hm e => hn (e ▸ hm)
  have hreached : ∀ m ∈ l, t.reached m = s.reached m := fun m hm => h.reached_other (hne m hm)
  have hfences : ∀ m ∈ l, t.fencesAtOnce m = s.fencesAtOnce m := fun m hm => by
    rw [State.fencesAtOnce, hreached m hm, h.burstInFlight m]
  refine ⟨?_, ?_, fun m => ?_, fun m => ?_, ?_⟩
  · rw [hrest.frame, h.frame]
  · rw [hrest.op, h.op, Option.map_map]
    refine Option.map_congr fun o ho => ?_
    have hkeep : ∀ c : Prop, [Decidable c] → (if c then o.asked else o).slot = o.slot := fun c _ => by
      split
      · exact o.asked_slot
      · rfl
    simp only [Function.comp_apply, hkeep]
    by_cases hslot : o.slot = n
    · subst hslot
      simp [hn]
    · by_cases hl : o.slot ∈ l
      · simp [hslot, hl, hreached o.slot hl]
      · simp [hslot, hl]
  · rw [hrest.slot m, h.slot m]
    by_cases hm : m = n
    · subst hm
      simp [hn]
    · by_cases hl : m ∈ l
      · simp [hm, hl, hfences m hl]
      · simp [hm, hl]
  · rw [hrest.context m, h.context m]
    by_cases hm : m = n
    · subst hm
      simp [hn]
    · by_cases hl : m ∈ l
      · simp [hm, hl, hfences m hl]
      · simp [hm, hl]
  · rw [hrest.events, h.events, List.foldl_cons]
    refine List.foldl_ext _ _ _ fun es m hm => ?_
    rw [hfences m hm, h.haltEntries_other (hne m hm)]

/-- No burst is asked to end where none of the list's slots at or above the threshold has one in flight. -/
theorem State.map_asked_of_no_burst (h : ∀ m ∈ l, s.reached m = true → s.burstInFlight m = false) :
    (s.op.map fun o => if o.slot ∈ l ∧ s.reached o.slot = true then o.asked else o) = s.op := by
  rcases ho : s.op with _ | o
  · rfl
  · rw [Option.map_some, Option.some.injEq]
    split
    · next hm =>
      have hnone := h o.slot hm.1 hm.2
      unfold Operation.asked
      split
      · next b hb => simp [State.burstInFlight_of_burst ho hb rfl] at hnone
      · rfl
      · rfl
    · rfl

/-- A threshold write that fences none of its slots at once (R121). -/
theorem State.fencedTo_of_op {op : Option Operation} (h : ∀ m ∈ l, s.fencesAtOnce m = false)
    (hop : op = s.op.map fun o => if o.slot ∈ l ∧ s.reached o.slot = true then o.asked else o) :
    s.fencedTo l { s with op := op } := by
  have hnot : ∀ m : Slot, ¬(m ∈ l ∧ s.fencesAtOnce m = true) := fun m hm => by simp [h m hm.1] at hm
  refine ⟨rfl, hop, fun m => (if_neg (hnot m)).symm, fun m => (if_neg (hnot m)).symm, ?_⟩
  have hkeep : ∀ (l : List Slot) (es : List Event), (∀ m ∈ l, s.fencesAtOnce m = false) → l.foldl (fun es n =>
      if s.fencesAtOnce n then insertSeat n (.fenced none) (es ++ s.haltEntries n .fenced) else es) es = es := by
    intro l
    induction l with
    | nil => exact fun _ _ => rfl
    | cons m l ih =>
      intro es hl
      rw [List.foldl_cons, if_neg (ne_true_of_eq_false (hl m List.mem_cons_self))]
      exact ih es fun k hk => hl k (List.mem_cons_of_mem _ hk)
  exact (hkeep l s.events h).symm

/-- A threshold write at one slot, whose burst in flight has its strobe out (R36, R121). -/
theorem State.fencedTo_applyThreshold (hphase : ∀ o ∈ s.op, s.burstInFlight o.slot = true → s.reached o.slot = true →
    o.phase ≠ .begun) (n : Slot) : s.fencedTo [n] (s.applyThreshold n) := by
  cases hreached : s.reached n with
  | false =>
    rw [State.applyThreshold_of_below hreached]
    refine State.fencedTo_of_op (op := s.op) (by simp [hreached]) (State.map_asked_of_no_burst ?_).symm
    simp [hreached]
  | true =>
    rw [State.applyThreshold_of_reached hreached]
    cases hburst : s.burstInFlight n with
    | true =>
      obtain ⟨o, b, ho, hk, rfl⟩ := (State.burstInFlight_iff s n).1 hburst
      rw [if_pos rfl, State.requestBoundary_of_strobed ho hk rfl (hphase o ho hburst hreached)]
      refine State.fencedTo_of_op (by simp [hburst]) ?_
      rw [ho, Option.map_some, if_pos ⟨List.mem_singleton_self _, hreached⟩]
      simp [Operation.asked, hk]
    | false =>
      have hfences : s.fencesAtOnce n = true := by simp [hreached, hburst]
      have hiff : ∀ m : Slot, (m ∈ [n] ∧ s.fencesAtOnce m = true) ↔ n = m := fun m => by
        rw [List.mem_singleton]
        exact ⟨fun h => h.1.symm, fun h => ⟨h.symm, h ▸ hfences⟩⟩
      rw [if_neg (by decide), State.judge_eq, if_pos hreached]
      refine ⟨rfl, (State.map_asked_of_no_burst (s := s) (l := [n]) (by simp [hburst])).symm, fun m => ?_, fun m => ?_, ?_⟩
      · refine (vector_get_set _ n m _).trans ?_
        simp only [hiff]
        split
        · next h => rw [h]
        · rfl
      · refine (vector_get_set _ n m _).trans ?_
        simp only [hiff]
        split
        · next h => rw [h]; rfl
        · rfl
      · rw [List.foldl_cons, if_pos hfences, List.foldl_nil]

/-- A threshold write at the slots of a list, each taken once (R121). -/
theorem State.fencedTo_foldl (hl : l.Nodup) (hphase : ∀ o ∈ s.op, s.burstInFlight o.slot = true →
    s.reached o.slot = true → o.phase ≠ .begun) : s.fencedTo l (l.foldl State.applyThreshold s) := by
  induction l generalizing s with
  | nil => exact State.fencedTo_of_op (op := s.op) (by simp) (State.map_asked_of_no_burst (by simp)).symm
  | cons n l ih =>
    obtain ⟨hn, hnodup⟩ := List.nodup_cons.1 hl
    have hone := State.fencedTo_applyThreshold hphase n
    refine hone.cons (ih hnodup fun o ho hburst hreached => ?_) hn
    obtain ⟨p, hp, hphase', hslot⟩ := hone.op_phase ho
    rw [hone.burstInFlight, hslot] at hburst
    rw [hphase']
    exact hphase p hp hburst (hone.reached_of_reached (hslot ▸ hreached))

end

/-- Settles O37: the slots are taken one after another, each as the state before the write has it. -/
theorem controlWriteSetsFieldsAndFences : Obligations.ControlWriteSetsFieldsAndFences := by
  intro s w haccess c reached fences hphase
  let v : State := { s with control := takenControl w }
  have h : v.fencedTo allSlots v.applyThresholds := State.fencedTo_foldl (by decide) hphase
  refine ⟨v.applyThresholds, exec_controlWrite haccess w, h.frame, ?_, fun n => ?_, fun n => ?_, h.events⟩
  · rw [h.op]
    refine Option.map_congr fun o _ => ?_
    simp only [mem_allSlots, true_and]
    unfold Operation.asked
    cases o.kind <;> simp
    rfl
  · rw [h.slot n]
    simp only [mem_allSlots, true_and]
    rfl
  · rw [h.context n]
    simp only [mem_allSlots, true_and]
    rfl

end Sys2Proof.Machine
end

section
/-! SUPPORT. The end of a word cycle does not look at the lines or at the command unit: it does the same whatever these
hold, and completes the command that waited, if any. With it the two events that cut an operation, a removal and BUS RESET
(R12, R13, R38, R152). -/

namespace Sys2Proof.Machine

/-! ## Frames -/

theorem State.identifyOutcome_frame (s : State) (n : Slot) (outcome : IdentifyOutcome) :
    s.identifyOutcome n outcome =
      { s with slots := (s.identifyOutcome n outcome).slots, events := (s.identifyOutcome n outcome).events } := by
  cases outcome with
  | good w0 w1 =>
    simp only [State.identifyOutcome]
    split
    · cases (identOfWords w0 w1).failedCheck <;> rfl
    · rfl
  | error kind index =>
    simp only [State.identifyOutcome]
    split <;> rfl

theorem State.judge_frame (s : State) (n : Slot) (k : Option ErrorKind) :
    s.judge n k =
      { s with slots := (s.judge n k).slots, contexts := (s.judge n k).contexts, events := (s.judge n k).events } := by
  rw [State.judge_eq]
  split <;> rfl

theorem State.countError_frame (s : State) (n : Slot) (e : LastError) :
    s.countError n e = { s with slots := (s.countError n e).slots } := by
  unfold State.countError
  split <;> rfl

theorem State.acknowledgeOutcome_frame (s : State) (n : Slot) (outcome : AcknowledgeOutcome) :
    s.acknowledgeOutcome n outcome =
      { s with slots := (s.acknowledgeOutcome n outcome).slots, contexts := (s.acknowledgeOutcome n outcome).contexts,
               events := (s.acknowledgeOutcome n outcome).events,
               attention := (s.acknowledgeOutcome n outcome).attention } := by
  cases outcome with
  | vector w => rfl
  | withdrawn => rfl
  | error kind =>
    simp only [State.acknowledgeOutcome]
    rw [State.judge_frame, State.countError_frame]

theorem State.burstOutcome_frame (s : State) (n : Slot) (cause : EndCause) :
    s.burstOutcome n cause =
      { s with slots := (s.burstOutcome n cause).slots, contexts := (s.burstOutcome n cause).contexts,
               events := (s.burstOutcome n cause).events } := by
  cases cause with
  | error kind index =>
    simp only [State.burstOutcome]
    rw [State.judge_frame, State.countError_frame]
  | sizeReached => exact s.judge_frame n none
  | cardStop => exact s.judge_frame n none
  | boundary => exact s.judge_frame n none

theorem State.settleAbort_frame (s : State) (n : Slot) :
    s.settleAbort n =
      { s with contexts := (s.settleAbort n).contexts, events := (s.settleAbort n).events,
               cmd := (s.settleAbort n).cmd } := by
  simp only [State.settleAbort]
  split
  · next x _ _ => cases x.phase <;> simp only [State.halt_eq] <;> rfl
  · rfl

/-! ## What the end of a word cycle does not look at -/

/-- The state with other lines, releases held or not, and another command unit. -/
def State.outside (s : State) (l : Lines) (held : Bool) (c : CommandUnit) : State :=
  { s with lines := l, releaseHeld := held, cmd := c }

/-- An operation does the same whatever the lines and the command unit hold, which it changes only as it completes the command
that waited; where it is silent it completes none. -/
def Outside (f : State → State) (s : State) (silent : Prop) : Prop :=
  ∃ e : CommandUnit → CommandUnit, (silent → e = id) ∧ ∀ l held c, f (s.outside l held c) = (f s).outside l held (e c)

/-- No command waits for the end of an operation (R56, R107). -/
def State.calm (s : State) : Prop := s.arb.hold ≠ .holding ∧ ∀ n : Slot, (s.context n).abortPending = false

section

variable {f g : State → State} {s : State} {p q : Prop}

theorem Outside.of_silent (h : ∀ l held c, f (s.outside l held c) = (f s).outside l held c) : Outside f s p :=
  ⟨id, fun _ => rfl, h⟩

theorem Outside.comp (hf : Outside f s p) (hg : Outside g (f s) q) (hq : p → q) : Outside (fun t => g (f t)) s p := by
  obtain ⟨e, he, hf⟩ := hf
  obtain ⟨e', he', hg⟩ := hg
  refine ⟨e' ∘ e, fun hp => by rw [he hp, he' (hq hp)]; rfl, fun l held c => ?_⟩
  simp only [hf, hg, Function.comp_apply]

/-- What is left of the operation record is no matter either. -/
theorem Outside.dropOp (h : Outside f { s with op := none } p) : Outside (fun t => f { t with op := none }) s p := h

/-- The lines and the command unit, read off an operation that does not look at them. -/
theorem Outside.cmd_eq (h : Outside f s p) (hp : p) : (f s).cmd = s.cmd := by
  obtain ⟨e, he, hf⟩ := h
  have hself : f s = (f s).outside s.lines s.releaseHeld (e s.cmd) := hf s.lines s.releaseHeld s.cmd
  rw [hself, he hp]
  rfl

/-- A silent operation with another command unit. -/
theorem Outside.outside_eq (h : Outside f s p) (hp : p) (l : Lines) (held : Bool) (c : CommandUnit) :
    f (s.outside l held c) = (f s).outside l held c := by
  obtain ⟨e, he, hf⟩ := h
  rw [hf, he hp]
  rfl

theorem Outside.self (h : Outside f s p) : ∃ e : CommandUnit → CommandUnit,
    (f s).lines = s.lines ∧ (f s).releaseHeld = s.releaseHeld ∧ (f s).cmd = e s.cmd ∧
      ∀ l held c, f (s.outside l held c) = (f s).outside l held (e c) := by
  obtain ⟨e, -, hf⟩ := h
  have hself : f s = (f s).outside s.lines s.releaseHeld (e s.cmd) := hf s.lines s.releaseHeld s.cmd
  refine ⟨e, ?_, ?_, ?_, hf⟩ <;> rw [hself] <;> rfl

/-- An operation with other lines. -/
theorem Outside.lines_eq (h : Outside f s p) (l : Lines) : f { s with lines := l } = { f s with lines := l } := by
  obtain ⟨e, -, hheld, hcmd, hf⟩ := h.self
  refine (hf l s.releaseHeld s.cmd).trans ?_
  rw [← hheld, ← hcmd]
  rfl

/-- An operation with releases held or not. -/
theorem Outside.held_eq (h : Outside f s p) (held : Bool) :
    f { s with releaseHeld := held } = { f s with releaseHeld := held } := by
  obtain ⟨e, hlines, -, hcmd, hf⟩ := h.self
  refine (hf s.lines held s.cmd).trans ?_
  rw [← hlines, ← hcmd]
  rfl

/-! ## Transfer engine and seat monitor -/

theorem State.judge_outside (n : Slot) (k : Option ErrorKind) : Outside (State.judge · n k) s p :=
  .of_silent fun l held c => by
    rw [State.judge_eq s, apply_ite (State.outside · l held c)]
    exact State.judge_eq _ n k

theorem State.countError_outside (n : Slot) (e : LastError) : Outside (State.countError · n e) s p :=
  .of_silent fun l held c => by
    rw [State.countError, State.countError, apply_ite (State.outside · l held c)]
    rfl

theorem State.settleAbort_outside (n : Slot) : Outside (State.settleAbort · n) s ((s.context n).abortPending = false) := by
  cases hp : (s.context n).abortPending with
  | false =>
    refine .of_silent fun l held c => ?_
    rw [State.settleAbort_of_clear _ _ hp, State.settleAbort_of_clear _ _ (by exact hp)]
  | true =>
    refine ⟨fun c => (State.settleAbort (s.outside s.lines s.releaseHeld c) n).cmd, nofun, fun l held c => ?_⟩
    have hcontext : ∀ l held c, (s.outside l held c).context n = s.context n := fun _ _ _ => rfl
    rcases hx : (s.context n).transfer with _ | x
    · simp only [State.settleAbort, hcontext, hp, hx]
      rfl
    · cases hphase : x.phase <;> simp only [State.settleAbort, hcontext, hp, hx, hphase, State.halt_eq] <;> rfl

/-! ## Arbiter and sequencer -/

theorem State.updateTurn_outside (k : OperationKind) (n : Slot) : Outside (State.updateTurn · k n) s p :=
  .of_silent fun l held c => by cases k <;> rfl

theorem State.completeHold_outside : Outside State.completeHold s (s.arb.hold ≠ .holding) := by
  by_cases hh : s.arb.hold = .holding
  · refine ⟨fun c => { c with executing := none, result := .ok, resultData := 0#16 }, fun hne => absurd hh hne,
      fun l held c => ?_⟩
    rw [s.completeHold_eq.1 hh, (s.outside l held c).completeHold_eq.1 hh]
    rfl
  · refine .of_silent fun l held c => ?_
    rw [s.completeHold_eq.2 hh, (s.outside l held c).completeHold_eq.2 hh]

theorem State.updateTurn_hold (s : State) (k : OperationKind) (n : Slot) : (s.updateTurn k n).arb.hold = s.arb.hold := by
  cases k <;> rfl

theorem State.operationEnd_outside (k : OperationKind) (n : Slot) :
    Outside (State.operationEnd · k n) s (s.arb.hold ≠ .holding) :=
  Outside.comp (State.updateTurn_outside k n) State.completeHold_outside fun h => (s.updateTurn_hold k n).symm ▸ h

theorem State.identifyOutcome_outside (n : Slot) (outcome : IdentifyOutcome) :
    Outside (State.identifyOutcome · n outcome) s p :=
  .of_silent fun l held c => by
    have hslot : (s.outside l held c).slot n = s.slot n := rfl
    cases outcome with
    | good w0 w1 =>
      simp only [State.identifyOutcome, hslot]
      split
      · cases (identOfWords w0 w1).failedCheck <;> rfl
      · rfl
    | error kind index =>
      simp only [State.identifyOutcome, hslot]
      split <;> rfl

theorem State.endIdentify_outside (o : Operation) (outcome : IdentifyOutcome) :
    Outside (State.endIdentify · o outcome) s (s.arb.hold ≠ .holding) :=
  Outside.dropOp (Outside.comp (State.identifyOutcome_outside o.slot outcome) (State.operationEnd_outside o.kind o.slot)
    fun h => by rw [State.identifyOutcome_frame]; exact h)

theorem State.acknowledgeOutcome_outside (n : Slot) (outcome : AcknowledgeOutcome) :
    Outside (State.acknowledgeOutcome · n outcome) s p := by
  cases outcome with
  | vector w => exact .of_silent fun _ _ _ => rfl
  | withdrawn => exact .of_silent fun _ _ _ => rfl
  | error kind => exact Outside.comp (State.countError_outside n _) (State.judge_outside n _) id

theorem State.endAcknowledge_outside (o : Operation) (outcome : AcknowledgeOutcome) :
    Outside (State.endAcknowledge · o outcome) s (s.arb.hold ≠ .holding) :=
  Outside.dropOp (Outside.comp (State.acknowledgeOutcome_outside o.slot outcome)
    (State.operationEnd_outside o.kind o.slot) fun h => by rw [State.acknowledgeOutcome_frame]; exact h)

theorem State.burstOutcome_outside (n : Slot) (cause : EndCause) : Outside (State.burstOutcome · n cause) s p := by
  cases cause with
  | error kind index => exact Outside.comp (State.countError_outside n _) (State.judge_outside n _) id
  | sizeReached => exact State.judge_outside n none
  | cardStop => exact State.judge_outside n none
  | boundary => exact State.judge_outside n none

theorem State.judge_abortPending (s : State) (n m : Slot) (k : Option ErrorKind) :
    ((s.judge n k).context m).abortPending = (s.context m).abortPending := by
  rw [State.judge_eq]
  split
  · refine (congrArg Context.abortPending (vector_get_set _ n m _)).trans ?_
    split
    · next h => rw [h]
    · rfl
  · rfl

theorem State.burstOutcome_calm {s : State} (h : s.calm) (n : Slot) (cause : EndCause) : (s.burstOutcome n cause).calm := by
  have hjudge : ∀ {t : State}, t.calm → ∀ k, (t.judge n k).calm := fun ht k =>
    ⟨by rw [State.judge_frame]; exact ht.1, fun m => (State.judge_abortPending _ n m k).trans (ht.2 m)⟩
  have hcount : ∀ e, (s.countError n e).calm := fun e => by
    unfold State.countError
    split <;> exact h
  cases cause with
  | error kind index => exact hjudge (hcount _) _
  | sizeReached => exact hjudge h none
  | cardStop => exact hjudge h none
  | boundary => exact hjudge h none

theorem State.endBurst_outside (o : Operation) (cause : EndCause) : Outside (State.endBurst · o cause) s s.calm := by
  refine Outside.dropOp (Outside.comp (Outside.comp (State.burstOutcome_outside o.slot cause)
    (State.settleAbort_outside o.slot) fun h => ?_) (State.operationEnd_outside o.kind o.slot) fun h => ?_)
  · exact (State.burstOutcome_calm (s := { s with op := none }) h o.slot cause).2 o.slot
  · have hcalm := State.burstOutcome_calm (s := { s with op := none }) h o.slot cause
    rw [State.settleAbort_of_clear _ _ (hcalm.2 o.slot)]
    exact hcalm.1

theorem State.beginWord_outside (o : Operation) : Outside (State.beginWord · o) s p :=
  .of_silent fun l held c => by
    have hkind : (s.outside l held c).drive o.slot o.kind = s.drive o.slot o.kind := by
      cases o.kind <;> rfl
    simp only [State.beginWord, hkind]
    rfl

theorem Outside.weaken (h : Outside f s q) (hq : p → q) : Outside f s p := by
  obtain ⟨e, he, hf⟩ := h
  exact ⟨e, fun hp => he (hq hp), hf⟩

theorem State.endIdentifyWord_outside (o : Operation) (first : Option Word) (a : Answer) :
    Outside (State.endIdentifyWord · o first a) s s.calm := by
  obtain ⟨reply, data, good⟩ := a
  have hend := fun outcome => (State.endIdentify_outside (s := s) o outcome).weaken (p := s.calm) (·.1)
  cases reply with
  | take =>
    cases good with
    | true =>
      cases first with
      | none => exact State.beginWord_outside _
      | some w0 => exact hend _
    | false => exact hend _
  | stop => exact hend _
  | fault => exact hend _

theorem State.endAcknowledgeWord_outside (o : Operation) (a : Answer) :
    Outside (State.endAcknowledgeWord · o a) s s.calm := by
  obtain ⟨reply, data, good⟩ := a
  have hend := fun outcome => (State.endAcknowledge_outside (s := s) o outcome).weaken (p := s.calm) (·.1)
  cases reply with
  | take => cases good <;> exact hend _
  | stop => exact hend _
  | fault => exact hend _

theorem State.afterWord_outside (o : Operation) (b : Burst) : Outside (State.afterWord · o b) s s.calm := by
  unfold State.afterWord
  split
  · exact State.endBurst_outside o _
  · split
    · exact State.endBurst_outside o _
    · exact State.beginWord_outside _

theorem State.endBurstWord_outside (o : Operation) (b : Burst) (a : Answer) :
    Outside (State.endBurstWord · o b a) s s.calm := by
  obtain ⟨reply, data, good⟩ := a
  cases reply with
  | take =>
    simp only [State.endBurstWord]
    split
    · exact State.afterWord_outside o b
    · exact State.endBurst_outside o _
  | stop => exact State.endBurst_outside o _
  | fault => exact State.endBurst_outside o _

theorem State.endWord_outside (o : Operation) (a : Answer) : Outside (State.endWord · o a) s s.calm := by
  unfold State.endWord
  split
  · exact State.endIdentifyWord_outside o _ a
  · exact State.endAcknowledgeWord_outside o a
  · exact State.endBurstWord_outside o _ a

theorem State.finishWord_outside : Outside State.finishWord s s.calm := by
  by_cases h : ∃ o a, s.op = some o ∧ o.phase.answer = some a
  · obtain ⟨o, a, ho, ha⟩ := h
    have hfinish : ∀ t : State, t.op = s.op → t.finishWord = t.endWord o a := fun t ht =>
      State.finishWord_of_answer (ht.trans ho) ha
    obtain ⟨e, he, hend⟩ := State.endWord_outside (s := s) o a
    refine ⟨e, he, fun l held c => ?_⟩
    rw [hfinish s rfl, hfinish (s.outside l held c) rfl]
    exact hend l held c
  · have hnone : ∀ t : State, t.op = s.op → t.finishWord = t := fun t ht => State.finishWord_of_no_answer fun o ho => by
      by_contra hne
      exact h ⟨o, _, ht ▸ ho, (Option.ne_none_iff_exists'.1 hne).choose_spec⟩
    exact .of_silent fun l held c => by rw [hnone s rfl, hnone (s.outside l held c) rfl]

end

/-! ## The part after the end of a word cycle -/

/-- No settle timer has changed. -/
def State.sameTimers (s t : State) : Prop := ∀ n : Slot, (t.slot n).timer = (s.slot n).timer

theorem State.sameTimers_set {s : State} {n : Slot} {r : SlotRecord} (h : r.timer = (s.slot n).timer) :
    s.sameTimers { s with slots := s.slots.set n r } := fun m => by
  refine (congrArg SlotRecord.timer (vector_get_set _ n m r)).trans ?_
  split
  · next hm => rw [h, hm]
  · rfl

theorem State.sameTimers.trans {s t u : State} (h : s.sameTimers t) (h' : t.sameTimers u) : s.sameTimers u :=
  fun n => (h' n).trans (h n)

theorem State.sameTimers_countError (s : State) (n : Slot) (e : LastError) : s.sameTimers (s.countError n e) := by
  unfold State.countError
  split
  · exact State.sameTimers_set rfl
  · exact fun _ => rfl

theorem State.sameTimers_judge (s : State) (n : Slot) (k : Option ErrorKind) : s.sameTimers (s.judge n k) := by
  rw [State.judge_eq]
  split
  · exact State.sameTimers_set (s := s) rfl
  · exact fun _ => rfl

theorem State.sameTimers_identifyOutcome (s : State) (n : Slot) (outcome : IdentifyOutcome) :
    s.sameTimers (s.identifyOutcome n outcome) := by
  unfold State.identifyOutcome
  split
  · split
    · simp only
      split
      · exact State.sameTimers_set (s := s) rfl
      · exact State.sameTimers_set (s := s) rfl
    · exact State.sameTimers_set (s := s) rfl
  · exact fun _ => rfl

/-- An operation has ended: its record is gone, and no HOLD waits (R29, R56). -/
structure State.endedTo (s t : State) : Prop where
  op : t.op = none
  hold : t.arb.hold ≠ .holding
  timers : s.sameTimers t

theorem State.endedTo_operationEnd {s t : State} (hop : t.op = none) (htimers : s.sameTimers t) (k : OperationKind)
    (n : Slot) : s.endedTo (t.operationEnd k n) := by
  refine ⟨?_, ?_, ?_⟩
  · rw [State.operationEnd_frame]
    exact hop
  · unfold State.operationEnd State.completeHold
    split
    · nofun
    · assumption
  · rw [State.operationEnd_frame]
    exact htimers

theorem State.endIdentify_endedTo (s : State) (o : Operation) (outcome : IdentifyOutcome) :
    s.endedTo (s.endIdentify o outcome) :=
  State.endedTo_operationEnd (s := s) (by rw [State.identifyOutcome_frame])
    (State.sameTimers_identifyOutcome { s with op := none } o.slot outcome) o.kind o.slot

theorem State.endAcknowledge_endedTo (s : State) (o : Operation) (outcome : AcknowledgeOutcome) :
    s.endedTo (s.endAcknowledge o outcome) := by
  refine State.endedTo_operationEnd (by rw [State.acknowledgeOutcome_frame]) ?_ o.kind o.slot
  cases outcome with
  | vector w => exact fun _ => rfl
  | withdrawn => exact fun _ => rfl
  | error kind =>
    exact (State.sameTimers_countError { s with op := none } _ _).trans (State.sameTimers_judge _ _ _)

theorem State.endBurst_endedTo (s : State) (o : Operation) (cause : EndCause) : s.endedTo (s.endBurst o cause) := by
  refine State.endedTo_operationEnd (by rw [State.settleAbort_frame, State.burstOutcome_frame]) ?_ o.kind o.slot
  rw [State.settleAbort_frame]
  cases cause with
  | error kind index =>
    exact (State.sameTimers_countError { s with op := none } _ _).trans (State.sameTimers_judge _ _ _)
  | sizeReached => exact State.sameTimers_judge { s with op := none } _ _
  | cardStop => exact State.sameTimers_judge { s with op := none } _ _
  | boundary => exact State.sameTimers_judge { s with op := none } _ _

/-- At the end of a word cycle the operation ends, or begins its next word cycle (R25, R29). -/
def State.goesOnTo (s : State) (o : Operation) (t : State) : Prop :=
  s.endedTo t ∨ ∃ o', t = s.beginWord o' ∧ o'.slot = o.slot

theorem State.endIdentifyWord_goesOnTo (s : State) (o : Operation) (first : Option Word) (a : Answer) :
    s.goesOnTo o (s.endIdentifyWord o first a) := by
  obtain ⟨reply, data, good⟩ := a
  cases reply with
  | take =>
    cases good with
    | true =>
      cases first with
      | none => exact .inr ⟨_, rfl, rfl⟩
      | some w0 => exact .inl (s.endIdentify_endedTo o _)
    | false => exact .inl (s.endIdentify_endedTo o _)
  | stop => exact .inl (s.endIdentify_endedTo o _)
  | fault => exact .inl (s.endIdentify_endedTo o _)

theorem State.endAcknowledgeWord_endedTo (s : State) (o : Operation) (a : Answer) :
    s.endedTo (s.endAcknowledgeWord o a) := by
  obtain ⟨reply, data, good⟩ := a
  cases reply with
  | take => cases good <;> exact s.endAcknowledge_endedTo o _
  | stop => exact s.endAcknowledge_endedTo o _
  | fault => exact s.endAcknowledge_endedTo o _

theorem State.endBurstWord_goesOnTo (s : State) (o : Operation) (b : Burst) (a : Answer) :
    s.goesOnTo o (s.endBurstWord o b a) := by
  obtain ⟨reply, data, good⟩ := a
  cases reply with
  | take =>
    simp only [State.endBurstWord, State.afterWord]
    split
    · split
      · exact .inl (s.endBurst_endedTo o _)
      · split
        · exact .inl (s.endBurst_endedTo o _)
        · exact .inr ⟨_, rfl, rfl⟩
    · exact .inl (s.endBurst_endedTo o _)
  | stop => exact .inl (s.endBurst_endedTo o _)
  | fault => exact .inl (s.endBurst_endedTo o _)

theorem State.endWord_goesOnTo (s : State) (o : Operation) (a : Answer) : s.goesOnTo o (s.endWord o a) := by
  unfold State.endWord
  split
  · exact s.endIdentifyWord_goesOnTo o _ a
  · exact .inl (s.endAcknowledgeWord_endedTo o a)
  · exact s.endBurstWord_goesOnTo o _ a

/-- The end of a word cycle leaves the operation with its slot, or ends it (R25). -/
theorem State.finishWord_slot {s : State} {o o' : Operation} (ho : s.op = some o) (ho' : s.finishWord.op = some o') :
    o'.slot = o.slot := by
  cases ha : o.phase.answer with
  | none =>
    rw [State.finishWord_of_no_answer (by simpa [ho] using ha), ho] at ho'
    rw [Option.some.inj ho']
  | some a =>
    rw [State.finishWord_of_answer ho ha] at ho'
    rcases s.endWord_goesOnTo o a with hended | ⟨p, ht, hp⟩
    · simp [hended.op] at ho'
    · rw [ht] at ho'
      exact Option.some.inj ho' ▸ hp

/-- The end of a word cycle leaves no HOLD waiting that did not wait before. -/
theorem State.finishWord_hold {s : State} (h : s.arb.hold ≠ .holding) : s.finishWord.arb.hold ≠ .holding := by
  unfold State.finishWord
  split
  · next o ho =>
    split
    · next a ha =>
      rcases s.endWord_goesOnTo o a with hended | ⟨p, ht, hp⟩
      · exact hended.hold
      · rw [ht]
        exact h
    · exact h
  · exact h

/-! ## A removal -/

theorem State.sel_iff (s : State) (n : Slot) : s.sel n = true ↔ ∃ o, s.op = some o ∧ o.slot = n := by
  unfold State.sel
  rcases s.op with _ | o <;> simp

/-- The end of an operation at the arbiter does not look at the operation record. -/
theorem State.operationEnd_dropOp (s : State) (k : OperationKind) (n : Slot) :
    State.operationEnd { s with op := none } k n =
      { s with op := none, arb := (s.operationEnd k n).arb, cmd := (s.operationEnd k n).cmd } := by
  unfold State.operationEnd State.completeHold
  by_cases h : s.arb.hold = .holding <;> cases k <;> simp only [State.updateTurn, h, if_true, if_false] <;> rfl

/-- The end of an operation keeps all of the command unit but the completion (R56). -/
theorem State.operationEnd_cmd (s : State) (k : OperationKind) (n : Slot) (result : Result) (datum : Word) :
    { (s.operationEnd k n).cmd with executing := none, result := result, resultData := datum } =
      { s.cmd with executing := none, result := result, resultData := datum } := by
  unfold State.operationEnd State.completeHold
  by_cases h : s.arb.hold = .holding <;> cases k <;> simp only [State.updateTurn, h, if_true, if_false] <;> rfl

/-- The hand-offs of a removal at a slot whose operation is gone (R12, R13, R72, R103). -/
def State.handOff (s : State) (n : Slot) : State :=
  ((((s.setSlot n { s.slot n with seat := .empty, timer := none, ident := none }).purge n).reportSeat n
    .unseated).halt n .unseated).settleAbort n

theorem State.remove_eq (s : State) (n : Slot) : s.remove n = (s.cutSlot n).handOff n := rfl

/-- The hand-offs as one update: an ABORT that waits finds its context ARMED (R103, R108). -/
theorem State.handOff_eq {s : State} {n : Slot} {c : Context} (hc : s.context n = c)
    (h : c.abortPending = true → s.armed n = true) :
    s.handOff n = { s with
      slots := s.slots.set n { s.slot n with seat := .empty, timer := none, ident := none }
      attention := s.attention.filter (fun e => e.slot ≠ n)
      inService := s.inService.set n false
      events := insertSeat n .unseated s.events ++ s.haltEntries n .unseated
      contexts := s.contexts.set n
        { transfer := c.transfer.map fun x => x.haltIfArmed .unseated, abortPending := false }
      cmd := match c.abortPending, c.transfer with
        | true, some x => { s.cmd with executing := none, result := .overtaken, resultData := BitVec.ofNat 16 x.moved }
        | _, _ => s.cmd } := by
  subst hc
  unfold State.handOff
  rw [State.halt_eq]
  cases hp : (s.context n).abortPending with
  | false =>
    rw [State.settleAbort_of_clear _ _ (by exact (congrArg Context.abortPending (State.context_set_self _ _ _)).trans hp)]
    simp only [State.purge, State.reportSeat, State.setSlot, State.haltEntries, State.context] at hp ⊢
    rw [hp]
  | true =>
    obtain ⟨x, hx, harmed⟩ := (State.armed_iff s n).1 (h hp)
    have hhalted : (s.context n).transfer.map (fun x => x.haltIfArmed .unseated) =
        some { x with phase := .halted .unseated } := by
      rw [hx, Option.map_some, Transfer.haltIfArmed, if_pos harmed]
    rw [State.settleAbort_of_ended _ n { x with phase := .halted .unseated }
      (by exact (congrArg Context.abortPending (State.context_set_self _ _ _)).trans hp)
      (by exact (congrArg Context.transfer (State.context_set_self _ _ _)).trans hhalted) (.inr ⟨_, rfl⟩), hhalted, hx]
    simp only [State.purge, State.reportSeat, State.setSlot, Vector.set_set]
    rfl

/-- A cut at a slot takes the operation with it, if any, its word settled first (R13, R38, log 12). -/
theorem State.cutSlot_eq (s : State) (n : Slot) : s.cutSlot n = if s.sel n then s.finishWord.cut else s := by
  unfold State.cutSlot State.sel
  rcases s.op with _ | o
  · rfl
  · simp

/-- A SEAT line that goes inactive at a slot past SETTLING is a removal (R12). -/
theorem State.seatInactive_of_pastSettling {s : State} {n : Slot} (h : s.takesAccess)
    (hpast : (s.slot n).seat.pastSettling = true) :
    s.seatInactive n = react s (State.remove { s with lines := s.lines.unseat n } n) := by
  have hready := State.ready_of_takesAccess h
  cases hseat : (s.slot n).seat with
  | empty => simp [hseat, SeatState.pastSettling] at hpast
  | settling => simp [hseat, SeatState.pastSettling] at hpast
  | identifyWait => simp only [State.seatInactive, hready, hseat, if_true]
  | identifying => simp only [State.seatInactive, hready, hseat, if_true]
  | online => simp only [State.seatInactive, hready, hseat, if_true]
  | failed => simp only [State.seatInactive, hready, hseat, if_true]
  | fenced => simp only [State.seatInactive, hready, hseat, if_true]

/-- Settles O25: the cut leaves the state in which the word cycle has ended, but for the operation and what the arbiter makes of
its end, and the hand-offs follow. -/
theorem removalHandsTheSlotOff : Obligations.RemovalHandsTheSlotOff := by
  intro s n haccess hpast f hpending cut ended
  let l : Lines := s.lines.unseat n
  have hfinish : State.finishWord { s with lines := l } = { s.finishWord with lines := l } :=
    State.finishWord_outside.lines_eq (p := s.calm) l
  have hcut : State.cutSlot { s with lines := l } n = { f with
      lines := l
      op := if cut then none else f.op
      arb := if cut then ended.arb else f.arb
      cmd := if cut then ended.cmd else f.cmd } := by
    rw [State.cutSlot_eq]
    cases hsel : s.sel n with
    | false =>
      have hf : f = s := if_neg (ne_true_of_eq_false hsel)
      have hnocut : cut = false := by simp only [cut, hf, hsel]
      rw [hnocut, hf]
      exact if_neg (ne_true_of_eq_false hsel)
    | true =>
      have hf : f = s.finishWord := if_pos hsel
      rw [if_pos (by exact hsel), hfinish, ← hf]
      obtain ⟨o, ho, rfl⟩ := (s.sel_iff n).1 hsel
      rcases hop : f.op with _ | o'
      · have hnocut : cut = false := by simp [cut, State.sel, hop]
        rw [hnocut, State.cut_of_none _ (by exact hop)]
        simp [hop]
      · have hslot : o'.slot = o.slot := State.finishWord_slot ho (hf ▸ hop)
        have hcut : cut = true := (f.sel_iff _).2 ⟨o', hop, hslot⟩
        have hended : ended = f.operationEnd o'.kind o.slot := by simp only [ended, hop]
        rw [hcut, hended, State.cut_of_some _ o' (by exact hop), hslot, State.operationEnd_dropOp,
          (State.operationEnd_outside (s := f) o'.kind o.slot).lines_eq l]
        rfl
  refine ⟨fun hnone => ?_, ?_⟩
  · simp only [f, State.finishWord_of_no_answer hnone, ite_self]
  · have hexec : exec (.removal n) s = .next (react s (State.remove { s with lines := l } n)) := by
      exact congrArg Host.Outcome.next (State.seatInactive_of_pastSettling haccess hpast)
    have hcmd : ∀ result datum,
        { (if cut then ended.cmd else f.cmd) with executing := none, result := result, resultData := datum } =
          { f.cmd with executing := none, result := result, resultData := datum } := fun result datum => by
      cases hc : cut with
      | false => rfl
      | true =>
        obtain ⟨o, ho, -⟩ := (f.sel_iff n).1 hc
        have hended : ended = f.operationEnd o.kind n := by simp only [ended, ho]
        rw [hended]
        exact f.operationEnd_cmd o.kind n result datum
    rw [hexec, State.remove_eq, hcut, State.handOff_eq (c := f.context n) (by rfl) (by exact hpending)]
    rcases hp : (f.context n).abortPending with _ | _ <;> rcases hx : (f.context n).transfer with _ | x
    · rfl
    · rfl
    · rfl
    · simp only [hcmd]
      rfl

/-! ## BUS RESET -/

/-- Halting every ARMED context, each once, in the order of a list (R105). -/
theorem State.halt_foldl (l : List Slot) (hl : l.Nodup) (r : HaltReason) (s : State) :
    l.foldl (fun s n => s.halt n r) s =
        { s with contexts := (l.foldl (fun s n => s.halt n r) s).contexts
                 events := s.events ++ l.flatMap fun n => s.haltEntries n r } ∧
      ∀ n, (l.foldl (fun s n => s.halt n r) s).context n = if n ∈ l then (s.context n).halted r else s.context n := by
  induction l generalizing s with
  | nil => simp
  | cons m l ih =>
    obtain ⟨hm, hrest⟩ := List.nodup_cons.1 hl
    have hcontext : ∀ n, (s.halt m r).context n = if m = n then (s.context m).halted r else s.context n := fun n => by
      rw [State.halt_eq]
      exact vector_get_set _ m n _
    have hentries : ∀ n ∈ l, (s.halt m r).haltEntries n r = s.haltEntries n r := fun n hn => by
      have hne : m ≠ n := fun e => hm (e ▸ hn)
      rw [State.haltEntries, hcontext n, if_neg hne]
      rfl
    obtain ⟨hstate, hslot⟩ := ih hrest (s.halt m r)
    rw [List.foldl_cons]
    refine ⟨?_, fun n => ?_⟩
    · rw [hstate, List.flatMap_cons, List.flatMap_congr hentries, State.halt_eq]
      simp only [List.append_assoc]
    · rw [hslot n, hcontext n]
      by_cases hn : n = m
      · subst hn
        simp [hm]
      · simp [hn, Ne.symm hn]

/-- Halting every ARMED context (R105). -/
theorem State.haltAll_eq (s : State) :
    s.haltAll = { s with contexts := s.haltAll.contexts, events := s.events ++ allSlots.flatMap (s.haltEntries · .busReset) } ∧
      ∀ n, s.haltAll.context n = (s.context n).halted .busReset := by
  obtain ⟨hstate, hcontext⟩ := State.halt_foldl allSlots (by decide) .busReset s
  exact ⟨hstate, fun n => (hcontext n).trans (if_pos (mem_allSlots n))⟩

theorem SlotRecord.busReset_eq (r : SlotRecord) :
    r.busReset = if r.seat.pastSettling then { r with seat := .identifyWait, errorCount := 0 } else r := by
  obtain ⟨seat, timer, ident, mode, errorCount, lastError⟩ := r
  cases seat <;> rfl

/-- A word cycle's end with no command that waits completes none (R56, R108). -/
theorem State.finishWord_takeWord {s : State} (h : s.calm) (w : Word) :
    (s.takeWord w).finishWord = s.finishWord.takeWord w := by
  have hfinish := State.finishWord_outside (s := s)
  obtain ⟨e, hlines, hheld, -, -⟩ := hfinish.self
  have hcmd := hfinish.cmd_eq h
  refine (hfinish.outside_eq h s.lines s.releaseHeld { s.cmd with code := w, resultData := 0 }).trans ?_
  rw [← hlines, ← hheld, ← hcmd]
  rfl

/-- Settles O57: with no command that waits, the word cycle ends as it does without the command word. -/
theorem busResetTakesEveryBlock : Obligations.BusResetTakesEveryBlock := by
  intro s hcommand hhold habort f
  have hcalm : s.calm := ⟨hhold, habort⟩
  refine ⟨State.finishWord_of_no_answer, _, congrArg Host.Outcome.next (State.writeCommand_code hcommand .busReset), ?_⟩
  let w := f.takeWord Command.busReset.code
  obtain ⟨origin, turn, hcut⟩ := w.cut_of_not_holding (State.finishWord_hold hhold)
  obtain ⟨hhalted, hcontext⟩ := w.cut.haltAll_eq
  have hreset : (s.takeWord Command.busReset.code).runCommand .busReset =
      State.execute { w.cut.haltAll with
        clear := true
        slots := Vector.ofFn fun n : Slot => (w.cut.haltAll.slot n).busReset
        arb := { w.cut.haltAll.arb with origin := 0, turn := .attention }
        attention := []
        inService := Vector.replicate 8 false } := by
    show State.execute (State.busReset (s.takeWord Command.busReset.code)) = _
    rw [State.busReset, State.finishWord_takeWord hcalm]
  rw [hreset]
  generalize w.cut.haltAll = u at hhalted hcontext
  rw [hcut] at hhalted hcontext
  have hslot : ∀ n, u.slot n = f.slot n := fun n => by
    rw [hhalted]
    rfl
  refine ⟨?_, fun n => Vector.getElem_replicate n.isLt, fun n => ?_, fun n => ?_⟩
  · rw [hhalted]
    rfl
  · refine (Vector.getElem_ofFn n.isLt).trans ?_
    rw [← SlotRecord.busReset_eq, ← hslot n]
  · exact hcontext n

end Sys2Proof.Machine
end

section
/-! SUPPORT. The service bus in a word cycle and the step on an empty queue: the lines, the release held or not, and the settle
timers that count down and expire (R4, R6, R22, R25, log 4, log 12). -/

namespace Sys2Proof.Machine

/-! ## The end of a word cycle and the phase it is taken in -/

/-- The end of a word cycle looks neither at the phase it stood in nor at what the part drove (R25). -/
theorem State.endWord_of_record (s : State) {o o' : Operation} (op : Option Operation) (a : Answer)
    (hslot : o'.slot = o.slot) (hindex : o'.index = o.index) (hkind : o'.kind.undriven = o.kind.undriven) :
    State.endWord { s with op := op } o' a = s.endWord o a := by
  obtain ⟨kind, slot, index, window, phase⟩ := o
  obtain ⟨kind', slot', index', window', phase'⟩ := o'
  obtain ⟨reply, data, good⟩ := a
  cases hslot
  cases hindex
  cases kind with
  | identify first =>
    cases kind' <;> cases hkind
    cases reply with
    | take => cases good <;> cases first <;> rfl
    | stop => rfl
    | fault => rfl
  | acknowledge =>
    cases kind' <;> cases hkind
    cases reply with
    | take => cases good <;> rfl
    | stop => rfl
    | fault => rfl
  | burst b =>
    obtain ⟨direction, size, moved, boundary, driven⟩ := b
    cases kind' with
    | identify w => cases hkind
    | acknowledge => cases hkind
    | burst b' =>
      obtain ⟨direction', size', moved', boundary', driven'⟩ := b'
      cases hkind
      cases reply with
      | take =>
        simp only [State.endWord, State.endBurstWord, State.afterWord]
        split
        · split
          · rfl
          · split <;> rfl
        · rfl
      | stop => rfl
      | fault => rfl

theorem OperationKind.undriven_undriven (k : OperationKind) : k.undriven.undriven = k.undriven := by
  cases k <;> rfl

/-- The end of a release is the end of the word cycle whose reply was taken (R25, log 12). -/
theorem State.finishWord_releaseWord (s : State) (o : Operation) (a : Answer) :
    (s.releaseWord o a).finishWord = s.endWord o a := by
  rw [State.finishWord_of_answer (s := s.releaseWord o a) rfl rfl]
  exact s.endWord_of_record _ a rfl rfl o.kind.undriven_undriven

/-- After the end of a word cycle and the choice it may call for, no reply has been taken (R25). -/
theorem react_endWord_answer (s : State) (o : Operation) (a : Answer) :
    ∀ o', (react s (s.endWord o a)).op = some o' → o'.phase.answer = none := by
  have hend : ∀ o', (s.endWord o a).op = some o' → o'.phase = .begun := fun o' ho' => by
    rcases s.endWord_goesOnTo o a with hended | ⟨p, ht, -⟩
    · simp [hended.op] at ho'
    · rw [ht] at ho'
      cases ho'
      rfl
  have hbegun : ∀ o', (react s (s.endWord o a)).op = some o' → o'.phase = .begun := fun o' ho' => by
    generalize s.endWord o a = t at hend ho'
    unfold react State.choose at ho'
    split at ho'
    · split at ho'
      · split at ho'
        · next c _ =>
          cases c with
          | identify n => cases ho'; rfl
          | acknowledge n => cases ho'; rfl
          | burst n =>
            simp only [State.start] at ho'
            split at ho'
            · cases ho'; rfl
            · exact hend o' ho'
        · exact hend o' ho'
      · exact hend o' ho'
    · exact hend o' ho'
  exact fun o' ho' => by rw [hbegun o' ho', WordPhase.answer_begun]

/-! ## Lines -/

theorem State.strobe_iff {s : State} {o : Operation} (ho : s.op = some o) :
    s.strobe = true ↔ o.phase = .strobed ∨ ∃ a, o.phase = .answered a := by
  cases hp : o.phase <;> simp [State.strobe, ho, hp]

/-- The data lines of a burst carry the word it drives, and those of any other operation none (R25). -/
theorem State.dataLines_of_op {s : State} {o : Operation} (ho : s.op = some o) :
    s.dataLines = match o.kind with
      | .burst b => b.driven
      | .identify _ => none
      | .acknowledge => none := by
  obtain ⟨kind, slot, index, window, phase⟩ := o
  cases kind <;> simp [State.dataLines, ho]

/-- The strobe of the word cycle in progress driven (R25). -/
def State.strobed (s : State) : State :=
  match s.op with
  | some o => { s with op := some { o with phase := .strobed } }
  | none => s

theorem State.strobed_of_op {s : State} {o : Operation} (ho : s.op = some o) :
    s.strobed = { s with op := some { o with phase := .strobed } } := by
  simp [State.strobed, ho]

theorem State.strobed_of_none {s : State} (ho : s.op = none) : s.strobed = s := by simp [State.strobed, ho]

/-- REPLY_RELEASE drives the strobe of the word cycle in progress, once one whose reply has been taken has ended (R25). -/
theorem exec_replyRelease (s : State) : exec .replyRelease s = .next (react s s.finishWord).strobed := rfl

theorem exec_replyRelease_of_no_answer {s : State} (h : ∀ o, s.op = some o → o.phase.answer = none) :
    exec .replyRelease s = .next s.strobed := by
  rw [exec_replyRelease, State.finishWord_of_no_answer h, react_self]

/-- Once the reply is taken the part takes no other, and the window runs out no more (R25, R26). -/
theorem exec_of_answer {s : State} {o : Operation} {a : Answer} (ho : s.op = some o) (ha : o.phase.answer = some a) :
    exec .responseWindowExpiry s = .next s ∧
      ∀ lines data parity, exec (.replyTaken lines data parity) s = .next s := by
  rcases (WordPhase.answer_eq_some _ _).1 ha with hp | hp
  all_goals
    refine ⟨by simp [exec, execResponseWindowExpiry, ho, hp], fun lines data parity => ?_⟩
    cases hr : replyOfLines lines <;> simp [exec, execReplyTaken, ho, hp, hr]

/-- The step on an empty queue with a reply taken: phase 5, or the end of the word cycle (R25, log 12). -/
theorem step_of_answer {s : State} {o : Operation} {a : Answer} (hq : s.pending = []) (ho : s.op = some o)
    (ha : o.phase.answer = some a) :
    (o.phase = .answered a ∧ step s = .next (s.releaseWord o a)) ∨
      (o.phase = .released a ∧ step s = .next (react s (s.endWord o a))) := by
  have hstep : step s = .next s.idle := by simp only [step, hq]
  rw [hstep]
  rcases (WordPhase.answer_eq_some _ _).1 ha with hp | hp
  · exact .inl ⟨hp, congrArg _ (State.idle_of_answered ho hp)⟩
  · exact .inr ⟨hp, congrArg _ (State.idle_of_released ho hp)⟩

/-- REPLY_RELEASE within the release ends it first, as the step on an empty queue would (R25, log 12). -/
theorem exec_replyRelease_step {s t : State} {o : Operation} {a : Answer} (ho : s.op = some o)
    (ha : o.phase.answer = some a) (hq : s.pending = []) (ht : step s = .next t) :
    exec .replyRelease s = exec .replyRelease t := by
  have hend : exec .replyRelease s = .next (react s (s.endWord o a)).strobed := by
    rw [exec_replyRelease, State.finishWord_of_answer ho ha]
  rcases step_of_answer hq ho ha with ⟨-, hstep⟩ | ⟨-, hstep⟩
  · obtain rfl : s.releaseWord o a = t := by simpa using hstep.symm.trans ht
    rw [hend, exec_replyRelease, State.finishWord_releaseWord, react_of_busy (State.busFree_of_operation ho),
      react_of_busy (State.busFree_of_operation rfl)]
  · obtain rfl : react s (s.endWord o a) = t := by simpa using hstep.symm.trans ht
    rw [hend, exec_replyRelease_of_no_answer (react_endWord_answer s o a)]

/-! ## Releases held -/

theorem State.start_held (s : State) (held : Bool) (c : Choice) :
    State.start { s with releaseHeld := held } c = { s.start c with releaseHeld := held } := by
  cases c with
  | identify n => rfl
  | acknowledge n => rfl
  | burst n =>
    have hcontext : State.context { s with releaseHeld := held } n = s.context n := rfl
    rcases hx : (s.context n).transfer with _ | x <;> simp only [State.start, hcontext, hx]
    rfl

/-- Whether releases are held is nothing to a choice. -/
theorem State.choose_held (s : State) (held : Bool) :
    State.choose { s with releaseHeld := held } = { s.choose with releaseHeld := held } := by
  have hchoice : State.choice { s with releaseHeld := held } = s.choice := rfl
  have hmay : State.mayChoose { s with releaseHeld := held } = s.mayChoose := rfl
  unfold State.choose
  rw [hmay, hchoice]
  split
  · split
    · exact s.start_held held _
    · rfl
  · rfl

/-- The end of a word cycle, and the choice it may call for, with releases held or not (log 12). -/
theorem react_endWord_held {s t : State} (hs : s.busFree = false) (ht : t.busFree = false) (u : State) (o : Operation)
    (a : Answer) (held : Bool) :
    react t (State.endWord { u with releaseHeld := held } o a) =
      { react s (u.endWord o a) with releaseHeld := held } := by
  rw [react_of_busy hs, react_of_busy ht, (State.endWord_outside (s := u) o a).held_eq held, State.choose_held]

theorem State.moveWord_held (s : State) (held : Bool) (n : Slot) (d : Direction) (data : Word) :
    State.moveWord { s with releaseHeld := held } n d data = { s.moveWord n d data with releaseHeld := held } := by
  have hcontext : State.context { s with releaseHeld := held } n = s.context n := rfl
  have hstore : ∀ x, State.storeReceived { s with releaseHeld := held } x data =
      { s.storeReceived x data with releaseHeld := held } := fun x => by
    unfold State.storeReceived
    split <;> rfl
  rcases hx : (s.context n).transfer with _ | x
  · simp only [State.moveWord, hcontext, hx]
  · cases d with
    | input =>
      simp only [State.moveWord, hcontext, hx, hstore]
      split
      · split <;> rfl
      · rfl
    | output =>
      simp only [State.moveWord, hcontext, hx]
      split
      · split <;> rfl
      · rfl

theorem State.takeReply_held (s : State) (held : Bool) (o : Operation) (a : Answer) :
    State.takeReply { s with releaseHeld := held } o a = { s.takeReply o a with releaseHeld := held } := by
  unfold State.takeReply
  split
  · rfl
  · rfl
  · rw [State.moveWord_held]
    split <;> rfl

/-- The operation record once a reply is taken: phase 4 of the same word cycle, with the data lines as they were (R25). -/
theorem State.takeReply_record {s : State} {o : Operation} (ho : s.op = some o) (a : Answer) :
    ∃ o', (s.takeReply o a).op = some o' ∧ o'.phase = .answered a ∧ o'.slot = o.slot ∧ o'.index = o.index ∧
      (s.takeReply o a).dataLines = s.dataLines := by
  unfold State.takeReply
  split
  · next w hw => exact ⟨_, rfl, rfl, rfl, rfl, by rw [State.dataLines_of_op rfl, State.dataLines_of_op ho]⟩
  · exact ⟨_, rfl, rfl, rfl, rfl, by rw [State.dataLines_of_op rfl, State.dataLines_of_op ho]⟩
  · next b hb =>
    split
    · exact ⟨_, rfl, rfl, rfl, rfl, by rw [State.dataLines_of_op ho, hb]; rfl⟩
    · exact ⟨_, rfl, rfl, rfl, rfl, by rw [State.dataLines_of_op rfl, State.dataLines_of_op ho]⟩

theorem replyOfLines_of_ne {lines : BitVec 2} (h : lines ≠ 0#2) : ∃ r, replyOfLines lines = some r :=
  Option.isSome_iff_exists.1 ((by decide : ∀ l : BitVec 2, l ≠ 0#2 → (replyOfLines l).isSome = true) lines h)

/-- A reply, phase 4 of its held release, phase 5 and the end of that come to the reply with no release held (log 12). -/
theorem exec_replyTaken_then_steps {s t : State} {o : Operation} {lines : BitVec 2} (ho : s.op = some o)
    (hp : o.phase = .strobed) (hlines : lines ≠ 0#2) (hq : s.pending = []) (hh : s.releaseHeld = false) {data : Word}
    {parity : BitVec 2} (ht : exec (.replyTaken lines data parity) s = .next t) :
    ∃ u v, exec (.replyTaken lines data parity) { s with releaseHeld := true } = .next u ∧ step u = .next v ∧
      (∃ o' o'' a, u.op = some o' ∧ v.op = some o'' ∧ o'.phase = .answered a ∧ o''.phase = .released a ∧
        o'.slot = o.slot ∧ o''.slot = o.slot ∧ o'.index = o.index ∧ o''.index = o.index) ∧
      u.strobe = true ∧ u.dataLines = s.dataLines ∧ v.strobe = false ∧ v.dataLines = none ∧
      step v = .next { t with releaseHeld := true } := by
  obtain ⟨r, hr⟩ := replyOfLines_of_ne hlines
  let a : Answer := ⟨r, data, parityGood data parity⟩
  obtain ⟨o', ho', hp', hslot, hindex, hdata⟩ := State.takeReply_record ho a
  rw [exec_replyTaken_of_strobed ho hp hh hr, State.finishWord_of_answer ho' (by rw [hp']; rfl)] at ht
  obtain rfl : react s ((s.takeReply o a).endWord o' a) = t := by simpa using ht
  let u : State := { s.takeReply o a with releaseHeld := true }
  have hqu : u.pending = [] := by
    rcases s.keeps_takeReply o a with hkeeps | ⟨b, -, -, -, hkeeps⟩
    · exact hkeeps.pending.trans hq
    · exact hkeeps.pending.trans ((State.keeps_moveWord s o.slot b.direction a.data).pending.trans hq)
  refine ⟨u, u.releaseWord o' a, ?_, ?_, ⟨o', _, a, ho', rfl, hp', rfl, hslot, hslot, hindex, hindex⟩, ?_, hdata,
    (u.releaseWord_lines o' a).1, (u.releaseWord_lines o' a).2, ?_⟩
  · rw [exec_replyTaken_of_held (by exact ho) hp rfl hr, State.takeReply_held]
  · simp only [step, hqu]
    rw [State.idle_of_answered (s := u) ho' hp']
  · exact (State.strobe_iff (s := u) ho').2 (.inr ⟨a, hp'⟩)
  · have hqv : (u.releaseWord o' a).pending = [] := hqu
    simp only [step, hqv]
    rw [State.idle_of_released (s := u.releaseWord o' a) rfl rfl,
      ← State.finishWord_of_answer (s := u.releaseWord o' a) rfl rfl, State.finishWord_releaseWord,
      react_endWord_held (s := s) (State.busFree_of_operation ho) (State.busFree_of_operation rfl)]

theorem State.sel_eq_true_iff {s : State} {o : Operation} (ho : s.op = some o) (n : Slot) :
    s.sel n = true ↔ n = o.slot := by
  simp only [State.sel, ho, beq_iff_eq]
  exact eq_comm

/-- A BURST_IN drives no data line, nor does a burst in its release (R25). -/
theorem State.operationLaw_undriven {s : State} {o : Operation} {b : Burst} (h : s.operationLaw o) (hk : o.kind = .burst b)
    (hundriven : b.direction = .input ∨ ∃ a, o.phase = .released a) : b.driven = none := by
  obtain ⟨kind, slot, index, window, phase⟩ := o
  cases hk
  obtain ⟨-, -, -, hinput, hreleased, -⟩ := h
  exact hundriven.elim hinput fun ⟨a, ha⟩ => hreleased a ha

/-- Settles O27. -/
theorem wordCyclesDriveTheLinesAndGoOn : Obligations.WordCyclesDriveTheLinesAndGoOn := by
  refine ⟨fun s hnone => ?idle, fun s o ho => ?driven, ⟨rfl, rfl, rfl, rfl⟩, fun s n i w data parity hh ho hgood => ?ident,
    fun s o a ho ha => ?answered, fun s t o lines data parity ho hp hlines hq hh ht =>
      exec_replyTaken_then_steps ho hp hlines hq hh ht⟩
  case idle =>
    have hdata : s.dataLines = none := by simp [State.dataLines, hnone]
    refine ⟨fun n => by simp [State.sel, hnone], by simp [State.strobe, hnone], hdata, by simp [State.parityLines, hdata], ?_⟩
    rw [exec_replyRelease_of_no_answer (by simp [hnone]), State.strobed_of_none hnone]
  case driven =>
    have hdata := State.dataLines_of_op ho
    refine ⟨State.sel_eq_true_iff ho, State.strobe_iff ho, fun w hk => ?_, fun hk => ?_, fun b hk => ⟨?_, ?_, ?_⟩, ?_, ?_, ?_⟩
    · exact ⟨by simp [State.kindLines, ho, hk, OperationKind.code], by rw [hdata, hk]⟩
    · exact ⟨by simp [State.kindLines, ho, hk, OperationKind.code], by rw [hdata, hk]⟩
    · cases hd : b.direction <;> simp [State.kindLines, ho, hk, OperationKind.code, hd]
    · exact fun _ => by rw [hdata, hk]
    · intro hlaw hundriven
      have hdriven := State.operationLaw_undriven hlaw hk hundriven
      rw [hdata, hk]
      exact hdriven
    · exact fun h => by simp [State.parityLines, h]
    · exact fun w hw => ⟨parityOf w, by simp [State.parityLines, hw], (parityGood_iff_eq w _).2 rfl⟩
    · exact fun ha => by
        rw [exec_replyRelease_of_no_answer (by simpa [ho] using ha), State.strobed_of_op ho]
  case ident =>
    rw [exec_replyTaken_of_identify (w := none) ho rfl rfl hh (r := .take) rfl, hgood]
    exact congrArg Host.Outcome.next (react_of_operation rfl)
  case answered =>
    obtain ⟨hexpiry, hreply⟩ := exec_of_answer ho ha
    exact ⟨hexpiry, hreply, fun t hq ht => exec_replyRelease_step ho ha hq ht⟩

/-! ## The step on an empty queue with a reply taken -/

/-- A choice leaves every slot record but that of an identify candidate, which goes to IDENTIFYING (R7). -/
theorem State.start_slot (s : State) (c : Choice) (n : Slot) :
    (s.start c).slot n = if c = .identify n then { s.slot n with seat := .identifying } else s.slot n := by
  cases c with
  | identify m =>
    refine (s.slot_setSlot m n _).trans ?_
    simp only [Choice.identify.injEq]
    split
    · next h => rw [h]
    · rfl
  | acknowledge m => rfl
  | burst m =>
    simp only [State.start]
    split <;> rfl

theorem react_slot (before after : State) (n : Slot) :
    (react before after).slot n = after.slot n ∨
      (react before after).slot n = { after.slot n with seat := .identifying } := by
  unfold react State.choose
  split
  · split
    · split
      · next c _ =>
        rw [State.start_slot]
        split
        · exact .inr rfl
        · exact .inl rfl
      · exact .inl rfl
    · exact .inl rfl
  · exact .inl rfl

theorem sameTimers_react (before after : State) : after.sameTimers (react before after) := fun n => by
  rcases react_slot before after n with h | h <;> rw [h]

theorem State.sameTimers_endWord (s : State) (o : Operation) (a : Answer) : s.sameTimers (s.endWord o a) := by
  rcases s.endWord_goesOnTo o a with hended | ⟨p, ht, -⟩
  · exact hended.timers
  · rw [ht]
    exact fun _ => rfl

/-- The reply of an IDENTIFY or ACKNOWLEDGE taken with no release held is the end of its release (R29 to R31, log 12). -/
theorem exec_replyTaken_eq_endWord {s : State} {o : Operation} {a : Answer} (ho : s.op = some o)
    (hk : ∀ b, o.kind ≠ .burst b) {lines parity : BitVec 2} (hr : replyOfLines lines = some a.reply)
    (hgood : parityGood a.data parity = a.good) :
    exec (.replyTaken lines a.data parity) { s with op := some { o with phase := .strobed }, releaseHeld := false } =
      .next { react s (s.endWord o a) with releaseHeld := false } := by
  rw [exec_replyTaken_of_strobed (o := { o with phase := .strobed }) rfl rfl rfl hr, hgood,
    State.takeReply_of_kept _ _ _ fun b hb => absurd (by exact hb) (hk b), State.finishWord_of_answer rfl rfl]
  exact congrArg Host.Outcome.next (by
    rw [← react_endWord_held (s := s) (t := { s with op := some { o with phase := .strobed }, releaseHeld := false })
      (State.busFree_of_operation ho) (State.busFree_of_operation rfl),
      ← State.endWord_of_record { s with releaseHeld := false } (o := o) (o' := { o with phase := .answered a })
        (some { o with phase := .answered a }) a rfl rfl rfl])

/-! ## A microsecond -/

theorem SlotRecord.expiring_iff (r : SlotRecord) :
    r.expiring = true ↔ r.seat = .settling ∧ ∃ k, r.timer = some k ∧ k ≤ 1 := by
  unfold SlotRecord.expiring
  cases r.timer <;> simp

/-- What a microsecond leaves of a settle timer that runs (R4). -/
theorem SlotRecord.elapse_one (r : SlotRecord) :
    r.elapse 1 = { r with timer := r.timer.map fun k => if 2 ≤ k then k - 1 else 1 } := r.elapse_eq 1

/-- The slot's timer has expired (R6, R7). -/
def SlotRecord.expired (r : SlotRecord) : Prop := r.timer = none ∧ (r.seat = .identifyWait ∨ r.seat = .identifying)

/-- An expired slot stays so at an event that leaves its record, whatever is chosen (R7). -/
theorem expired_react {before after : State} {n : Slot} (h : (after.slot n).expired) :
    ((react before after).slot n).expired := by
  rcases react_slot before after n with hr | hr <;> rw [hr]
  · exact h
  · exact ⟨h.1, .inr rfl⟩

theorem State.expired_expire_self (s : State) (n : Slot) : ((s.expire n).slot n).expired :=
  expired_react (by rw [State.slot_setSlot, if_pos rfl]; exact ⟨rfl, .inl rfl⟩)

theorem State.expired_expire {s : State} {n : Slot} (h : (s.slot n).expired) (m : Slot) : ((s.expire m).slot n).expired := by
  refine expired_react ?_
  rw [State.slot_setSlot]
  split
  · exact ⟨rfl, .inl rfl⟩
  · exact h

theorem State.expired_foldl {n : Slot} (l : List Slot) {s : State} (h : (s.slot n).expired) :
    ((l.foldl State.expire s).slot n).expired := by
  induction l generalizing s with
  | nil => exact h
  | cons m l ih => exact ih (State.expired_expire h m)

/-- Every slot of the list has expired once the list is through. -/
theorem State.expired_of_mem {n : Slot} (l : List Slot) (hn : n ∈ l) (s : State) :
    ((l.foldl State.expire s).slot n).expired := by
  obtain ⟨before, after, rfl⟩ := List.append_of_mem hn
  rw [List.foldl_append, List.foldl_cons]
  exact State.expired_foldl after (State.expired_expire_self _ n)

/-- The slots whose timers stand in their last microsecond, where there is one alone. -/
theorem filter_allSlots_eq_singleton {p : Slot → Bool} {n : Slot} (hn : p n = true) (hother : ∀ m, m ≠ n → p m = false) :
    allSlots.filter p = [n] := by
  have hp : p = fun m => decide (m = n) := funext fun m => by
    by_cases h : m = n
    · rw [h, hn, decide_eq_true rfl]
    · rw [hother m h, decide_eq_false h]
  subst hp
  revert n
  decide

/-- Settles O2, by the phase of the word cycle in progress. -/
theorem emptyQueueStepIsOneMicrosecond : Obligations.EmptyQueueStepIsOneMicrosecond := by
  intro s hq expiring passed
  refine ⟨s.idle, by simp only [step, hq], fun o a ho hp => ?answered, fun o a ho hp => ?released, fun hnone => ?microsecond⟩
  case answered =>
    rw [State.idle_of_answered ho hp]
    refine ⟨(s.releaseWord_lines o a).1, (s.releaseWord_lines o a).2, ?_⟩
    unfold State.releaseWord
    cases o.kind <;> rfl
  case released =>
    have hfinish : s.finishWord = s.endWord o a := State.finishWord_of_answer ho (by rw [hp]; rfl)
    rw [State.idle_of_released ho hp]
    refine ⟨by rw [hfinish], (s.sameTimers_endWord o a).trans (sameTimers_react s _), fun lines parity hk hr hgood =>
      exec_replyTaken_eq_endWord ho hk hr hgood, fun b x hk hx htake hgood hshort hboundary => ?_⟩
    have hmoves : a.moves b.direction = true := by
      rcases hgood with hd | hd <;> simp [Answer.moves, htake, hd]
    rw [State.endWord_of_burst s hk, State.endBurstWord_of_moved s o htake hmoves,
      State.afterWord_of_short hk hx hshort hboundary, react_of_operation rfl]
  case microsecond =>
    have hexpiring : ∀ n, (s.slot n).expiring = true ↔ expiring n := fun n => (s.slot n).expiring_iff
    have hpassed : ∀ n, (s.elapse 1).slot n = passed n := fun n => (s.elapse_slot 1 n).trans (s.slot n).elapse_one
    rw [State.idle_of_no_answer hnone, State.microsecond]
    refine ⟨fun hnot => ?none, fun n hn hother => ?one, fun n hn => ?several⟩
    case none =>
      have hfilter : (allSlots.filter fun n => (s.slot n).expiring) = [] :=
        List.filter_eq_nil_iff.2 fun n _ h => hnot n ((hexpiring n).1 h)
      rw [hfilter]
      exact ⟨rfl, hpassed⟩
    case one =>
      have hfilter : (allSlots.filter fun n => (s.slot n).expiring) = [n] :=
        filter_allSlots_eq_singleton ((hexpiring n).2 hn) fun m hm =>
          Bool.eq_false_iff.2 fun h => hother m hm ((hexpiring m).1 h)
      have hslot := s.slot_setSlot_expired 1 n
      rw [hfilter]
      refine ⟨(s.elapse 1).setSlot n { (s.elapse 1).slot n with seat := .identifyWait, timer := none },
        react_elapse s 1 _, rfl, by rw [hslot, if_pos rfl], fun m hm => ?_⟩
      rw [hslot, if_neg hm, ← hpassed, State.elapse_slot]
    case several =>
      exact State.expired_of_mem _ (List.mem_filter.2 ⟨mem_allSlots n, (hexpiring n).2 hn⟩) _

end Sys2Proof.Machine
end

section
/-! SUPPORT. The registers and views of the host window, field by field (10 sections 10.1 to 10.5). -/

namespace Sys2Proof.Machine

/-! ## Fields and bits of words put together -/

section

variable {a b : Nat} (x : BitVec a) (y : BitVec b) {i n : Nat}

/-- A field that lies in the lower part of a word. -/
theorem field_low (h : i + n ≤ b) : (x ++ y).toNat / 2 ^ i % 2 ^ n = y.toNat / 2 ^ i % 2 ^ n := by
  obtain ⟨k, rfl⟩ := Nat.exists_eq_add_of_le h
  have hsplit : x.toNat * 2 ^ (i + n + k) + y.toNat = y.toNat + 2 ^ i * (2 ^ n * (2 ^ k * x.toNat)) := by ring
  rw [toNat_fields, hsplit, Nat.add_mul_div_left _ _ (by positivity), Nat.add_mul_mod_self_left]

/-- A field that lies in the upper part of a word. -/
theorem field_high (h : b ≤ i) : (x ++ y).toNat / 2 ^ i % 2 ^ n = x.toNat / 2 ^ (i - b) % 2 ^ n := by
  obtain ⟨k, rfl⟩ := Nat.exists_eq_add_of_le h
  rw [toNat_fields, Nat.pow_add, ← Nat.div_div_eq_div_mul, Nat.add_comm, Nat.add_mul_div_right _ _ (by positivity),
    Nat.div_eq_of_lt y.isLt, Nat.zero_add, Nat.add_sub_cancel_left]

/-- A field that is all of a word. -/
theorem field_all (x : BitVec n) : x.toNat / 2 ^ 0 % 2 ^ n = x.toNat := by
  rw [Nat.pow_zero, Nat.div_one, Nat.mod_eq_of_lt x.isLt]

/-- A bit that lies in the lower part of a word. -/
theorem bit_low (h : i < b) : (x ++ y).getLsbD i = y.getLsbD i := by
  rw [BitVec.getLsbD_append, if_pos h]

/-- A bit that lies in the upper part of a word. -/
theorem bit_high (h : b ≤ i) : (x ++ y).getLsbD i = x.getLsbD (i - b) := by
  rw [BitVec.getLsbD_append, if_neg (by omega)]

theorem bit_ofBool (v : Bool) : (BitVec.ofBool v).getLsbD 0 = v := by cases v <;> rfl

end

theorem bitsOfSlot_toNat (n : Slot) : (bitsOfSlot n).toNat = n.val := by
  rw [bitsOfSlot, BitVec.toNat_ofNat, Nat.mod_eq_of_lt n.isLt]

theorem toNat_ofNat_of_lt {k n : Nat} (h : n < 2 ^ k) : (BitVec.ofNat k n).toNat = n := by
  rw [BitVec.toNat_ofNat, Nat.mod_eq_of_lt h]

/-! ## Reads -/

/-- After STARTING a read takes the register at its address (R156). -/
theorem State.readRegister_of_takesAccess {s : State} (h : s.takesAccess) (a : BitVec 5) :
    s.readRegister a = s.registerWord a := by
  simp [State.readRegister, h.1, h.2]

/-- While RSTIN# is inactive a read of STATUS takes it, in STARTING as afterwards (R141). -/
theorem State.readRegister_status {s : State} (h : s.lines.rstin = false) : s.readRegister 0x00#5 = s.statusWord := by
  cases hs : s.starting <;> simp [State.readRegister, h, hs, State.registerWord]

/-- An address from 1Ch on is empty (10 section 10.1). -/
theorem State.registerWord_empty (s : State) {a : BitVec 5} (h : 0x1C ≤ a.toNat) : s.registerWord a = 0#16 := by
  unfold State.registerWord
  split <;> first | omega | rfl

/-! ## STATUS -/

theorem State.statusWord_hold (s : State) :
    s.statusWord.toNat / 4096 % 4 = (match s.arb.hold with
      | .running => 0
      | .holding => 1
      | .held => 2) := by
  show s.statusWord.toNat / 2 ^ 12 % 2 ^ 2 = _
  unfold State.statusWord
  simp (disch := decide) only [field_low, field_high]
  cases s.arb.hold <;> rfl

theorem State.statusWord_zero (s : State) : s.statusWord.toNat / 4 % 64 = 0 := by
  show s.statusWord.toNat / 2 ^ 2 % 2 ^ 6 = _
  unfold State.statusWord
  simp (disch := decide) only [field_low, field_high]
  rfl

/-- STATUS, bit by bit (R146, 10 section 10.2). -/
theorem State.statusWord_bits (s : State) :
    s.statusWord.getLsbD 15 = s.starting ∧ s.statusWord.getLsbD 14 = s.cmd.executing.isSome ∧
      s.statusWord.getLsbD 11 = s.clear ∧ s.statusWord.getLsbD 10 = !s.attention.isEmpty ∧
      s.statusWord.getLsbD 9 = !s.events.isEmpty ∧ s.statusWord.getLsbD 8 = s.hreq ∧
      s.statusWord.getLsbD 1 = s.windowFault ∧ s.statusWord.getLsbD 0 = s.overrun := by
  unfold State.statusWord
  simp (disch := decide) only [bit_low, bit_high]
  simp only [Nat.reduceSub, bit_ofBool, and_self]

/-- The level of HREQ (R154). -/
theorem State.hreq_iff (s : State) : s.hreq = true ↔
    (s.control.attentionEnable = true ∧ s.attention ≠ []) ∨ (s.control.eventEnable = true ∧ s.events ≠ []) := by
  simp [State.hreq, State.attentionCause, State.eventCause]

/-! ## CONTROL, TIMING, STORE_POINTER and the chain order list -/

/-- CONTROL as read, field by field (R144). -/
theorem Control.word_fields {c : Control} (hthreshold : c.threshold ≤ 15) (hdepth : c.depth ≤ 8) :
    c.word.getLsbD 15 = c.attentionEnable ∧ c.word.getLsbD 14 = c.eventEnable ∧
      (c.word.getLsbD 13 = true ↔ c.discipline = .rotating) ∧ c.word.getLsbD 12 = false ∧
      c.word.toNat / 256 % 16 = c.threshold ∧ c.word.toNat % 256 = c.depth := by
  refine ⟨?_, ?_, ?_, ?_, ?_, ?_⟩
  · unfold Control.word
    simp (disch := decide) only [bit_high]
    exact bit_ofBool _
  · unfold Control.word
    simp (disch := decide) only [bit_low, bit_high]
    exact bit_ofBool _
  · unfold Control.word
    simp (disch := decide) only [bit_low, bit_high]
    cases c.discipline <;> decide
  · unfold Control.word
    simp (disch := decide) only [bit_low, bit_high]
    rfl
  · show c.word.toNat / 2 ^ 8 % 2 ^ 4 = _
    unfold Control.word
    simp (disch := decide) only [field_low, field_high]
    exact (field_all _).trans (toNat_ofNat_of_lt (by omega))
  · have h4 := toNat_ofNat_of_lt (k := 4) (n := c.depth) (by omega)
    have hzero : (0#4).toNat = 0 := rfl
    unfold Control.word
    simp only [toNat_fields, h4, hzero]
    omega

/-- TIMING as read (R145). -/
theorem Timing.word_toNat {t : Timing} (hsettle : t.settleTime ≤ 255) (hwindow : t.responseWindow ≤ 63) :
    t.word.toNat = 256 * t.settleTime + t.responseWindow := by
  have hs := toNat_ofNat_of_lt (k := 8) (n := t.settleTime) (by omega)
  have hw := toNat_ofNat_of_lt (k := 6) (n := t.responseWindow) (by omega)
  have hzero : (0#2).toNat = 0 := rfl
  unfold Timing.word
  simp only [toNat_fields, hs, hw, hzero]
  omega

/-- STORE_POINTER as read (R86). -/
theorem StorePointer.word_toNat (p : StorePointer) : p.word.toNat = 4096 * p.slot.val + p.offset.toNat := by
  have hzero : (0#1).toNat = 0 := rfl
  unfold StorePointer.word
  simp only [toNat_fields, hzero, bitsOfSlot_toNat]
  omega

/-- Four positions of the chain order list as read (R158). -/
theorem orderWord_toNat (a b c d : Slot) : (orderWord a b c d).toNat = a.val + 16 * b.val + 256 * c.val + 4096 * d.val := by
  have hzero : (0#1).toNat = 0 := rfl
  unfold orderWord
  simp only [toNat_fields, hzero, bitsOfSlot_toNat]
  omega

/-- The slot at each position of the chain order list, from ORDER_LO and ORDER_HI (R43, R158). -/
theorem State.readRegister_position {s : State} (h : s.takesAccess) (p : Position) :
    (s.readRegister (if p.val < 4 then 0x19#5 else 0x1A#5)).toNat / 16 ^ (p.val % 4) % 16 = s.arb.order[p].val := by
  obtain ⟨hlo, hhi⟩ := State.readRegister_order h
  have hlt : ∀ k (hk : k < 8), (s.arb.order[k]).val < 8 := fun k hk => (s.arb.order[k]).isLt
  have h0 := hlt 0 (by decide)
  have h1 := hlt 1 (by decide)
  have h2 := hlt 2 (by decide)
  have h3 := hlt 3 (by decide)
  have h4 := hlt 4 (by decide)
  have h5 := hlt 5 (by decide)
  have h6 := hlt 6 (by decide)
  have h7 := hlt 7 (by decide)
  obtain ⟨k, hk⟩ := p
  interval_cases k
  all_goals
    simp only [Fin.getElem_fin, Nat.reduceLT, Nat.reduceMod, Nat.reducePow, if_true, if_false, hlo, hhi, orderWord_toNat]
    omega

/-! ## The word of STORE_DATA -/

/-- A read of STORE_DATA (R87, R89). -/
theorem State.storeDataWord_cases (s : State) :
    (∀ x page, (s.context s.pointer.slot).transfer = some x → x.phase ≠ .armed →
      x.pages[s.pointer.offset.toNat / 32]? = some page →
      s.storeDataWord = s.store.read (page.val * 32 + s.pointer.offset.toNat % 32)) ∧
    (∀ x, (s.context s.pointer.slot).transfer = some x →
      (x.phase = .armed ∨ 32 * x.pages.length ≤ s.pointer.offset.toNat) → s.storeDataWord = 0#16) ∧
    ((s.context s.pointer.slot).transfer = none → s.storeDataWord = 0#16) := by
  refine ⟨fun x page hx hphase hpage => ?_, fun x hx hrefused => ?_, fun hx => ?_⟩
  · have haddress : x.address s.pointer.offset.toNat = some (page.val * 32 + s.pointer.offset.toNat % 32) := by
      simp only [Transfer.address, Config.pageWords, hpage]
      rfl
    rw [State.storeDataWord, State.windowAddress_of_admits hx ((Phase.admits_read_iff _).2 hphase), haddress]
  · have hnone : s.windowAddress false = none := State.windowAddress_of_refused hx fun hadmits =>
      (Transfer.address_eq_none_iff _ _).2 (hrefused.resolve_left ((Phase.admits_read_iff _).1 hadmits))
    rw [State.storeDataWord, hnone]
  · rw [State.storeDataWord, State.windowAddress_of_no_context hx]

/-! ## The registers of the window -/

theorem HostLines.hd_eq (l : HostLines) (taken : Word) :
    l.hd taken = if l.hcs = true ∧ l.hrd = true ∧ l.hwr = false then some taken else none := by
  obtain ⟨hcs, hrd, hwr⟩ := l
  cases hcs <;> cases hrd <;> cases hwr <;> rfl

/-- Settles O58, register by register. -/
theorem windowRegistersShowTheirFields : Obligations.WindowRegistersShowTheirFields := by
  refine ⟨HostLines.hd_eq, fun s =>
    ⟨fun a h => ?_, fun a h hs ha => ?_, fun h => ?status, fun h => ?store, fun h hlaw hfree => ?plain⟩⟩
  · simp [State.readRegister, h]
  · simp [State.readRegister, h, hs, ha]
  case status =>
    obtain ⟨h15, h14, h11, h10, h9, h8, h1, h0⟩ := s.statusWord_bits
    simp only [State.readRegister_status h]
    refine ⟨h15, h14, s.statusWord_hold, h11, ?_, ?_, ?_, s.statusWord_zero, h1, h0⟩
    · rw [h10]; simp
    · rw [h9]; simp
    · rw [h8]; exact s.hreq_iff
  case store =>
    have hdata : s.readRegister 0x0F#5 = s.storeDataWord := State.readRegister_of_takesAccess h _
    obtain ⟨hword, hrefused, hnone⟩ := s.storeDataWord_cases
    simp only [hdata]
    exact ⟨hword, hrefused, hnone, State.readRegister_position h⟩
  case plain =>
    have hread := State.readRegister_of_takesAccess h
    obtain ⟨⟨-, hthreshold⟩, ⟨-, hdepth⟩, ⟨-, hsettle⟩, ⟨-, hwindow⟩, -, -⟩ := hlaw
    obtain ⟨h15, h14, h13, h12, hfield, hlow⟩ := Control.word_fields (c := s.control) hthreshold hdepth
    simp only [hread]
    refine ⟨h15, h14, h13, h12, hfield, hlow, Timing.word_toNat hsettle hwindow, rfl, rfl, rfl, ?_, rfl,
      s.pointer.word_toNat, toNat_ofNat_of_lt (by omega), ?_, rfl, fun a ha => s.registerWord_empty ha⟩
    · show (0#12 ++ s.cmd.result.code).toNat = _
      cases s.cmd.result <;> rfl
    · show (0#13 ++ bitsOfSlot s.slotSelect).toNat = _
      have hzero : (0#13).toNat = 0 := rfl
      rw [toNat_fields, hzero, bitsOfSlot_toNat]
      omega

/-! ## The heads of the queues and the in-service set -/

theorem getLsbD_eq_true_iff (w : Word) (i : Nat) : w.getLsbD i = true ↔ w.toNat / 2 ^ i % 2 = 1 := by
  rw [getLsbD_eq_decide, decide_eq_true_iff]

theorem getLsbD_eq_false_iff (w : Word) (i : Nat) : w.getLsbD i = false ↔ w.toNat / 2 ^ i % 2 = 0 := by
  rw [getLsbD_eq_decide, decide_eq_false_iff_not]
  omega

/-- The words of EVENT_HEAD for a SEAT-class head, as numbers (R134, R160). -/
theorem headWords_seat_toNat (n : Slot) (c : SeatChange) (k length : Nat) :
    ((Event.seat n c k).headWords length).1.toNat = 32768 + 2048 * seatKindCode c + 256 * n.val + k % 16 ∧
      ((Event.seat n c k).headWords length).2.1.toNat = 4096 * (length % 16) + 256 * seatDetailCode c := by
  have hcode : c.code.toNat = seatKindCode c := by cases c <;> rfl
  have hdetail : c.detailCode.toNat = seatDetailCode c := by
    cases c with
    | seated => rfl
    | unseated => rfl
    | identFailed kind => cases kind <;> rfl
    | fenced kind =>
      cases kind with
      | none => rfl
      | some kind => cases kind <;> rfl
  have h1 : (1#1).toNat = 1 := rfl
  have h0 : (0#1).toNat = 0 := rfl
  have h04 : (0#4).toNat = 0 := rfl
  have h08 : (0#8).toNat = 0 := rfl
  simp only [Event.headWords, toNat_fields, hcode, hdetail, h1, h0, h04, h08, bitsOfSlot_toNat, BitVec.toNat_ofNat]
  omega

/-- The words of EVENT_HEAD for a TRANSFER-class head, as numbers (R134, R160). -/
theorem headWords_transfer_toNat (n : Slot) (ending : TransferEnd) (tag : BitVec 8) (d : Direction)
    (words length : Nat) :
    let w := (Event.transfer n ending tag d words).headWords length
    w.1.toNat = 49152 + 2048 * ending.code.toNat + 256 * n.val ∧
      w.2.1.toNat = 4096 * (length % 16) + 2048 * d.code.toNat + 256 * ending.detailCode.toNat + tag.toNat ∧
      w.2.2.toNat = words % 4096 := by
  have h1 : (1#1).toNat = 1 := rfl
  have h04 : (0#4).toNat = 0 := rfl
  simp only [Event.headWords, toNat_fields, h1, h04, bitsOfSlot_toNat, BitVec.toNat_ofNat]
  omega

/-- The words of ATTN_HEAD, as numbers (R66). -/
theorem State.attentionHead_toNat {s : State} {e : AttentionEntry} {rest : List AttentionEntry}
    (h : s.attention = e :: rest) :
    s.attentionHead.1.toNat = 32768 + 4096 * e.slot.val + 256 * (s.attention.length % 16) + e.service.toNat ∧
      s.attentionHead.2 = e.vector := by
  have h1 : (1#1).toNat = 1 := rfl
  have h02 : (0#2).toNat = 0 := rfl
  constructor
  · simp only [State.attentionHead, h, toNat_fields, h1, h02, bitsOfSlot_toNat, BitVec.toNat_ofNat]
    omega
  · simp only [State.attentionHead, h]

/-- IN_SERVICE has a bit for each slot (R67). -/
theorem State.inServiceWord_bits (s : State) (n : Slot) : s.inServiceWord.getLsbD n.val = s.inService[n] := by
  unfold State.inServiceWord
  obtain ⟨k, hk⟩ := n
  interval_cases k
  all_goals
    simp (disch := decide) only [bit_low, bit_high]
    exact bit_ofBool _

theorem State.inServiceWord_lt (s : State) : s.inServiceWord.toNat < 256 := by
  have h08 : (0#8).toNat = 0 := rfl
  unfold State.inServiceWord
  simp only [toNat_fields, h08]
  omega

theorem seatKindCode_lt (c : SeatChange) : seatKindCode c < 8 := by cases c <;> simp [seatKindCode]

theorem seatDetailCode_lt (c : SeatChange) : seatDetailCode c < 8 := by
  have herror : ∀ kind, errorCode kind < 8 := fun kind => by cases kind <;> decide
  cases c with
  | seated => decide
  | unseated => decide
  | identFailed kind => exact herror kind
  | fenced kind =>
    cases kind with
    | none => decide
    | some kind => exact herror kind

/-- Settles O59, head by head. -/
theorem queueHeadsShowTheHeads : Obligations.QueueHeadsShowTheHeads := by
  intro s h
  have hread := State.readRegister_of_takesAccess h
  simp only [hread]
  refine ⟨fun hnil => ?noEvent, fun e rest hcons => ?event, fun hnil => ?noAttention, fun e rest hcons hlength => ?attention,
    s.inServiceWord_lt, s.inServiceWord_bits⟩
  case noEvent =>
    have hhead : s.eventHead = (0#16, 0#16, 0#16) := by simp [State.eventHead, hnil]
    exact ⟨congrArg Prod.fst hhead, congrArg (·.2.1) hhead, congrArg (·.2.2) hhead⟩
  case event =>
    have hhead : s.eventHead = e.headWords s.events.length := by simp [State.eventHead, hcons]
    have h0 : s.registerWord 0x0B#5 = (e.headWords s.events.length).1 := congrArg Prod.fst hhead
    have h1 : s.registerWord 0x0C#5 = (e.headWords s.events.length).2.1 := congrArg (·.2.1) hhead
    have h2 : s.registerWord 0x0D#5 = (e.headWords s.events.length).2.2 := congrArg (·.2.2) hhead
    rw [h0, h1, h2]
    cases e with
    | seat n c k =>
      obtain ⟨hw0, hw1⟩ := headWords_seat_toNat n c k s.events.length
      have hkind := seatKindCode_lt c
      have hdetail := seatDetailCode_lt c
      have hslot := n.isLt
      simp only [getLsbD_eq_true_iff, getLsbD_eq_false_iff, hw0, hw1]
      refine ⟨by omega, ?_, by omega, by omega, fun m c' j he hj => ?_, fun _ _ _ _ _ he => nomatch he⟩
      · show _ = n.val
        omega
      · cases he
        exact ⟨by omega, by omega, by omega, by omega, by omega, rfl⟩
    | transfer n ending tag d words =>
      obtain ⟨hw0, hw1, hw2⟩ := headWords_transfer_toNat n ending tag d words s.events.length
      have hslot := n.isLt
      have htag := tag.isLt
      have hending := ending.code.isLt
      have hd := d.code.isLt
      have hdetail := ending.detailCode.isLt
      simp only [getLsbD_eq_true_iff, hw0, hw1, hw2]
      refine ⟨by omega, ?_, by omega, by omega, fun _ _ _ he => (nomatch he), fun m e' tag' d' w' he hw => ?_⟩
      · show _ = n.val
        omega
      · cases he
        refine ⟨by omega, by omega, by omega, by omega, ?_, ?_, ?_⟩
        · have hcode : d = .output ↔ d.code.toNat = 1 := by cases d <;> simp [Direction.code]
          rw [hcode]
          omega
        · rintro rfl
          have hcode : TransferEnd.done.code.toNat = 5 := rfl
          have hzero : TransferEnd.done.detailCode.toNat = 0 := rfl
          omega
        · rintro reason rfl
          have hcode : (TransferEnd.halted reason).code.toNat = 6 := rfl
          have hreason : (TransferEnd.halted reason).detailCode.toNat = reasonCode reason := by cases reason <;> rfl
          omega
  case noAttention =>
    have hhead : s.attentionHead = (0#16, 0#16) := by simp [State.attentionHead, hnil]
    exact ⟨congrArg Prod.fst hhead, congrArg Prod.snd hhead⟩
  case attention =>
    obtain ⟨hword, hvector⟩ := State.attentionHead_toNat hcons
    have h0 : s.registerWord 0x08#5 = s.attentionHead.1 := rfl
    rw [h0, getLsbD_eq_true_iff]
    refine ⟨?_, ?_, ?_, ?_, hvector⟩ <;> omega

/-! ## SLOT_VIEW and CONTEXT_VIEW -/

theorem toNat_ofBool_le (v : Bool) : (BitVec.ofBool v).toNat ≤ 1 := by cases v <;> decide

theorem Mode.code_toNat (m : Mode) : m.code.toNat = modeCode m := by cases m <;> rfl

theorem SeatState.code_toNat (x : SeatState) : x.code.toNat = seatCode x := by cases x <;> rfl

theorem modeCode_lt (m : Mode) : modeCode m < 4 := by cases m <;> decide

/-- Word 0 of SLOT_VIEW, field by field (R20). -/
theorem State.slotView0_fields (s : State) (n : Slot) :
    let v := s.slotView0 n
    v.toNat / 8192 = seatCode (s.slot n).seat ∧ v.toNat / 2048 % 4 = modeCode (s.slot n).mode ∧
      v.toNat / 512 % 4 = modeCode (s.slot n).effectiveMode ∧ v.getLsbD 8 = s.lines.seat[n] ∧
      v.getLsbD 7 = s.lines.areq[n] ∧ v.getLsbD 6 = s.lines.treq[n] ∧ v.getLsbD 5 = (s.slot n).ident.isSome ∧
      v.getLsbD 4 = false ∧ ((s.slot n).errorCount ≤ 15 → v.toNat % 16 = (s.slot n).errorCount) := by
  have hseat := toNat_ofBool_le s.lines.seat[n]
  have hareq := toNat_ofBool_le s.lines.areq[n]
  have htreq := toNat_ofBool_le s.lines.treq[n]
  have hident := toNat_ofBool_le (s.slot n).ident.isSome
  have hmode := modeCode_lt (s.slot n).mode
  have heffective := modeCode_lt (s.slot n).effectiveMode
  have h01 : (0#1).toNat = 0 := rfl
  simp only [State.slotView0]
  refine ⟨?_, ?_, ?_, ?_, ?_, ?_, ?_, ?_, fun hcount => ?_⟩
  case refine_4 | refine_5 | refine_6 | refine_7 =>
    simp (disch := decide) only [bit_low, bit_high]
    exact bit_ofBool _
  case refine_8 =>
    simp (disch := decide) only [bit_low, bit_high]
    rfl
  all_goals
    simp only [toNat_fields, SeatState.code_toNat, Mode.code_toNat, h01, BitVec.toNat_ofNat]
    omega

/-- Word 3 of SLOT_VIEW with a last error, field by field (R159). -/
theorem LastError.viewWord_fields (e : LastError) :
    e.viewWord.getLsbD 15 = true ∧ e.viewWord.toNat / 4096 % 8 = errorCode e.kind ∧
      e.viewWord.toNat / 1024 % 4 = operationCode e.operation ∧ (e.index ≤ 31 → e.viewWord.toNat % 1024 = e.index) := by
  have h1 : (1#1).toNat = 1 := rfl
  have h05 : (0#5).toNat = 0 := rfl
  have hkind : e.kind.code.toNat = errorCode e.kind := by cases e.kind <;> rfl
  have hkind' := e.kind.code.isLt
  have hoperation : e.operation.code.toNat = operationCode e.operation := by cases e.operation <;> rfl
  have hoperation' := e.operation.code.isLt
  rw [getLsbD_eq_true_iff]
  simp only [LastError.viewWord, toNat_fields, h1, h05, BitVec.toNat_ofNat]
  omega

/-- Word 0 of CONTEXT_VIEW of an open context, field by field (R113). -/
theorem contextWord_fields (x : Transfer) (pending : Bool) :
    let w : Word := x.phase.code ++ x.direction.code ++ x.phase.reasonCode ++ BitVec.ofBool pending ++ x.tag
    w.toNat / 8192 = phaseCode x.phase ∧ (w.getLsbD 12 = true ↔ x.direction = .output) ∧
      w.toNat / 512 % 8 = x.phase.reasonCode.toNat ∧ w.getLsbD 8 = pending ∧ w.toNat % 256 = x.tag.toNat := by
  have hphase : x.phase.code.toNat = phaseCode x.phase := by cases x.phase <;> rfl
  have hdirection : x.direction = .output ↔ x.direction.code.toNat = 1 := by
    cases x.direction <;> simp [Direction.code]
  have hdirection' := x.direction.code.isLt
  have hreason := x.phase.reasonCode.isLt
  have hpending := toNat_ofBool_le pending
  have htag := x.tag.isLt
  refine ⟨?_, ?_, ?_, ?_, ?_⟩
  case refine_4 =>
    simp (disch := decide) only [bit_low, bit_high]
    exact bit_ofBool _
  case refine_2 =>
    rw [getLsbD_eq_true_iff, hdirection]
    simp only [toNat_fields]
    omega
  all_goals
    simp only [toNat_fields]
    omega

/-- Settles O60, word by word. -/
theorem viewsAndCodesLoseNothing : Obligations.ViewsAndCodesLoseNothing := by
  refine ⟨commandOf_eq_some_iff, fun s h => ?_⟩
  have hread := State.readRegister_of_takesAccess h
  intro n r v3 c0
  have hv3 : v3 = s.slotView3 n := hread _
  have hc0 : c0 = (s.contextView n).1 := hread _
  have h13 : s.readRegister 0x13#5 = (r.ident.map Ident.identWord).getD 0 := hread _
  have h14 : s.readRegister 0x14#5 = (r.ident.map Ident.capabilityWord).getD 0 := hread _
  have h17 : s.readRegister 0x17#5 = (s.contextView n).2.1 := hread _
  have h18 : s.readRegister 0x18#5 = (s.contextView n).2.2 := hread _
  refine ⟨fun a => rfl, fun levels => ?view0, fun hnone => ?noIdent, fun w0 w1 hident => ?ident, fun e he hindex => ?error,
    fun k he hseat hk hle => ?timer, fun he hseat => ?noView3, ?pending, fun hx => ?closed, fun x hx hcount hmoved => ?opened⟩
  case view0 =>
    let t : State := { s with lines := { levels with rstin := s.lines.rstin } }
    have hview : s.readRegisterMeeting levels 0x12#5 = t.slotView0 n :=
      State.readRegister_of_takesAccess (s := t) h 0x12#5
    obtain ⟨hseat, hmode, heffective, hbits⟩ := t.slotView0_fields n
    simp only [hview]
    refine ⟨hseat, hmode, heffective.trans ?_, hbits⟩
    exact apply_ite modeCode _ _ _
  case noIdent => exact ⟨by rw [h13, hnone]; rfl, by rw [h14, hnone]; rfl⟩
  case ident =>
    exact ⟨by rw [h13, hident]; exact identOfWords_identWord w0 w1,
      by rw [h14, hident]; exact identOfWords_capabilityWord w0 w1⟩
  case error =>
    have hword : s.slotView3 n = e.viewWord := by
      have he' : (s.slot n).lastError = some e := he
      simp [State.slotView3, he']
    obtain ⟨hpresent, hkind, hoperation, hindex'⟩ := e.viewWord_fields
    rw [hv3, hword]
    exact ⟨hpresent, hkind, hoperation, hindex' hindex⟩
  case timer =>
    have hword : s.slotView3 n = 0#8 ++ BitVec.ofNat 8 (remainingMillis k) := by
      have he' : (s.slot n).lastError = none := he
      have hseat' : (s.slot n).seat = .settling := hseat
      have hk' : (s.slot n).timer = some k := hk
      simp [State.slotView3, he', hseat', hk']
    have h08 : (0#8).toNat = 0 := rfl
    rw [hv3, hword]
    simp only [toNat_fields, h08, BitVec.toNat_ofNat, remainingMillis, Config.microsPerMilli]
    split <;> omega
  case noView3 =>
    have he' : (s.slot n).lastError = none := he
    have hseat' : (s.slot n).seat ≠ .settling := hseat
    rw [hv3]
    simp [State.slotView3, he', hseat']
  case pending =>
    rw [hc0]
    unfold State.contextView
    split
    · exact (contextWord_fields _ _).2.2.2.1
    · simp (disch := decide) only [bit_low, bit_high]
      exact bit_ofBool _
  case closed =>
    have hview : s.contextView n = (0#7 ++ BitVec.ofBool (s.context n).abortPending ++ 0#8, 0#16, 0#16) := by
      simp [State.contextView, hx]
    have hpending := toNat_ofBool_le (s.context n).abortPending
    have h07 : (0#7).toNat = 0 := rfl
    have h08 : (0#8).toNat = 0 := rfl
    rw [hc0, h17, h18, hview]
    refine ⟨?_, ?_, rfl, rfl⟩
    all_goals
      simp only [toNat_fields, h07, h08]
      omega
  case opened =>
    have hview : s.contextView n =
        (x.phase.code ++ x.direction.code ++ x.phase.reasonCode ++ BitVec.ofBool (s.context n).abortPending ++ x.tag,
          0#4 ++ BitVec.ofNat 12 x.count, 0#4 ++ BitVec.ofNat 12 x.moved) := by
      simp [State.contextView, hx]
    have h04 : (0#4).toNat = 0 := rfl
    obtain ⟨hphase, hdirection, hreason, -, htag⟩ := contextWord_fields x (s.context n).abortPending
    rw [hc0, h17, h18, hview]
    refine ⟨hphase, hdirection, fun reason hr => ?_, fun hnot => ?_, htag, ?_, ?_⟩
    · rw [hreason, hr]
      cases reason <;> rfl
    · rw [hreason]
      cases hp : x.phase with
      | halted reason => exact absurd hp (hnot reason)
      | loading => rfl
      | armed => rfl
      | done => rfl
    · simp only [toNat_fields, h04, BitVec.toNat_ofNat]
      omega
    · simp only [toNat_fields, h04, BitVec.toNat_ofNat]
      omega

end Sys2Proof.Machine
end

section
/-! SUPPORT. The laws that tie the blocks together, as every step keeps them. Within a step they hold but for the slot whose
operation has just ended and for slots not yet judged against a threshold: `State.lawBut` is the law with these left open. -/

namespace Sys2Proof.Machine

/-! ## The law with slots left open -/

/-- An IDENTIFY in flight of a slot (R7). -/
theorem State.identifyInFlight_iff (s : State) (n : Slot) :
    s.identifyInFlight n = true ↔ ∃ o w, s.op = some o ∧ o.kind = .identify w ∧ o.slot = n := by
  unfold State.identifyInFlight
  split
  · next w m i v p ho => simp [ho]
  · next hnone =>
    refine iff_of_false (by simp) ?_
    rintro ⟨⟨kind, slot, i, v, p⟩, w, ho, rfl, rfl⟩
    exact hnone w slot i v p ho

/-- A burst in flight of a slot whose end has been asked for (R36). -/
theorem State.endingBurst_iff (s : State) (n : Slot) :
    s.endingBurst n = true ↔ ∃ o b, s.op = some o ∧ o.kind = .burst b ∧ o.slot = n ∧ b.boundary = true := by
  unfold State.endingBurst
  split
  · next b m i v p ho => simp [ho]
  · next hnone =>
    refine iff_of_false (by simp) ?_
    rintro ⟨⟨kind, slot, i, v, p⟩, b, ho, rfl, rfl, -⟩
    exact hnone b slot i v p ho

/-- The laws that tie the blocks together, with slots whose operation has just ended left open in what they wait for, and
unjudged slots left open in their count. -/
structure State.lawBut (s : State) (ended unjudged : Slot → Prop) : Prop where
  reset : s.lines.rstin = true → s.clear = true ∧ s.starting = false
  quiet : s.lines.rstin = true ∨ s.starting = true →
    s.op = none ∧ s.cmd.executing = none ∧ s.arb.hold = .running ∧
      ∀ n : Slot, (s.slot n).seat = .empty ∧ (s.context n).transfer = none
  still : s.clear = true ∨ s.arb.hold = .held → s.op = none
  operation : ∀ o ∈ s.op, ¬ended o.slot ∧ s.operationLaw o
  identifying : ∀ n : Slot, ¬ended n → (s.slot n).seat = .identifying → s.identifyInFlight n = true
  armed : ∀ n : Slot, s.armed n = true → (s.slot n).seat = .online ∧ (s.slot n).transferCapable = true
  slots : ∀ n : Slot, (s.slot n).law
  fence : ∀ n : Slot, ¬unjudged n → (s.slot n).seat ≠ .fenced → (s.slot n).seat ≠ .empty →
    (s.slot n).errorCount < s.control.threshold ∨ ((s.slot n).seat = .online ∧ s.endingBurst n = true)
  fields : 1 ≤ s.control.threshold ∧ 1 ≤ s.timing.settleTime ∧ 1 ≤ s.timing.responseWindow ∧ s.timing.responseWindow ≤ 63
  executing : ∀ r ∈ s.cmd.executing,
    (r.code = Command.hold.code ∧ s.arb.hold = .holding)
      ∨ (r.code = Command.busReset.code ∧ s.clear = true)
      ∨ (r.code = Command.abort.code ∧ ∃ n : Slot, (s.context n).abortPending = true)
  holding : s.arb.hold = .holding →
    (s.op.isSome = true ∨ ∃ n, ended n) ∧ s.cmd.executing.map CommandRecord.code = some Command.hold.code
  aborting : ∀ n : Slot, (s.context n).abortPending = true →
    s.cmd.executing.map CommandRecord.code = some Command.abort.code ∧
      ((ended n ∧ ∃ x ∈ (s.context n).transfer, x.phase ≠ .loading) ∨
        (s.endingBurst n = true ∧ ∃ x ∈ (s.context n).transfer, x.phase = .armed ∨ x.phase = .done))
  clearing : s.clear = true → s.takesAccess → s.cmd.executing.map CommandRecord.code = some Command.busReset.code

/-- No slot is left open. -/
abbrev noSlot : Slot → Prop := fun _ => False

theorem State.partLaw_iff (s : State) : s.partLaw ↔ s.lawBut noSlot noSlot := by
  constructor
  · rintro ⟨hreset, hquiet, hstill, hoperation, hidentifying, harmed, hslots, hfence, hfields,
      hexecuting, hholding, haborting, hclearing⟩
    exact ⟨hreset, hquiet, hstill, fun o ho => ⟨id, hoperation o ho⟩, fun n _ => hidentifying n, harmed, hslots,
      fun n _ => hfence n, hfields, hexecuting, fun h => ⟨.inl (hholding h).1, (hholding h).2⟩,
      fun n hn => ⟨(haborting n hn).2.1, .inr ⟨(haborting n hn).1, (haborting n hn).2.2⟩⟩, hclearing⟩
  · rintro ⟨hreset, hquiet, hstill, hoperation, hidentifying, harmed, hslots, hfence, hfields,
      hexecuting, hholding, haborting, hclearing⟩
    refine ⟨hreset, hquiet, hstill, fun o ho => (hoperation o ho).2, fun n => hidentifying n id, harmed, hslots,
      fun n => hfence n id, hfields, hexecuting, fun h => ⟨(hholding h).1.resolve_right nofun, (hholding h).2⟩,
      fun n hn => ?_, hclearing⟩
    obtain ⟨hcode, ⟨⟨⟩, -⟩ | ⟨hending, hx⟩⟩ := haborting n hn
    exact ⟨hending, hcode, hx⟩

/-! ## What the law looks at -/

/-- The parts of the state that the law looks at. -/
structure Parts where
  rstin     : Bool
  starting  : Bool
  clear     : Bool
  hold      : HoldState
  op        : Option Operation
  executing : Option CommandRecord
  slots     : Vector SlotRecord 8
  contexts  : Vector Context 8
  threshold : Nat
  timing    : Timing

def State.parts (s : State) : Parts where
  rstin := s.lines.rstin
  starting := s.starting
  clear := s.clear
  hold := s.arb.hold
  op := s.op
  executing := s.cmd.executing
  slots := s.slots
  contexts := s.contexts
  threshold := s.control.threshold
  timing := s.timing

/-- A state with these parts. -/
def Parts.state (p : Parts) : State :=
  { State.reset with
    lines := { State.reset.lines with rstin := p.rstin }
    starting := p.starting
    clear := p.clear
    arb := { State.reset.arb with hold := p.hold }
    op := p.op
    cmd := { State.reset.cmd with executing := p.executing }
    slots := p.slots
    contexts := p.contexts
    control := { State.reset.control with threshold := p.threshold }
    timing := p.timing }

section

variable {s t : State} {ended unjudged unjudged' : Slot → Prop} {n : Slot}

theorem State.lawBut_parts_iff : s.lawBut ended unjudged ↔ s.parts.state.lawBut ended unjudged :=
  ⟨fun h => ⟨h.reset, h.quiet, h.still, h.operation, h.identifying, h.armed, h.slots, h.fence, h.fields, h.executing,
      h.holding, h.aborting, h.clearing⟩,
    fun h => ⟨h.reset, h.quiet, h.still, h.operation, h.identifying, h.armed, h.slots, h.fence, h.fields, h.executing,
      h.holding, h.aborting, h.clearing⟩⟩

/-- The law looks at nothing but the parts. -/
theorem State.lawBut.of_parts (h : s.lawBut ended unjudged) (hparts : t.parts = s.parts) : t.lawBut ended unjudged :=
  State.lawBut_parts_iff.2 (hparts ▸ State.lawBut_parts_iff.1 h)

/-! ## Consequences of the law -/

/-- What the law of an operation says of its slot and context is all it looks at. -/
theorem State.operationLaw_congr {o : Operation} (h : s.operationLaw o) (hslot : t.slot o.slot = s.slot o.slot)
    (hcontext : t.context o.slot = s.context o.slot) : t.operationLaw o := by
  unfold State.operationLaw at h ⊢
  rw [hslot, hcontext]
  exact h

/-- The seat state of the slot of an operation in flight (R7, R23, R31). -/
theorem State.operationLaw.seat {o : Operation} (h : s.operationLaw o) :
    (s.slot o.slot).seat = .identifying ∨ (s.slot o.slot).seat = .online ∨ (s.slot o.slot).seat = .fenced ∨
      (s.slot o.slot).seat = .identifyWait := by
  obtain ⟨-, h⟩ := h
  split at h
  · exact .inl h.1
  · rcases h.1 with hs | hs | hs
    · exact .inr (.inl hs)
    · exact .inr (.inr (.inl hs))
    · exact .inr (.inr (.inr hs))
  · exact .inr (.inl h.1)

/-- With an operation in flight the host window takes accesses, CLEAR is inactive and the hold state is not HELD (R23). -/
theorem State.lawBut.running {o : Operation} (h : s.lawBut ended unjudged) (ho : s.op = some o) :
    s.takesAccess ∧ s.clear = false ∧ s.arb.hold ≠ .held := by
  have hbusy : s.op ≠ none := by simp [ho]
  have hquiet : ¬(s.lines.rstin = true ∨ s.starting = true) := fun hq => hbusy (h.quiet hq).1
  have hstill : ¬(s.clear = true ∨ s.arb.hold = .held) := fun hq => hbusy (h.still hq)
  exact ⟨by simpa using hquiet, by simpa using (not_or.1 hstill).1, (not_or.1 hstill).2⟩

/-- A slot that is not judged by its seat state is below the threshold: its count is 0 before ONLINE (R11, R118, R119). -/
theorem State.lawBut.count_lt (h : s.lawBut ended unjudged) (honline : (s.slot n).seat ≠ .online)
    (hfenced : (s.slot n).seat ≠ .fenced) (hempty : (s.slot n).seat ≠ .empty) :
    (s.slot n).errorCount < s.control.threshold := by
  obtain ⟨-, -, -, -, -, hzero⟩ := h.slots n
  have hcount : (s.slot n).errorCount = 0 := by
    refine hzero ?_
    cases hseat : (s.slot n).seat <;> simp_all
  have := h.fields.1
  omega

/-- More may be left open. -/
theorem State.lawBut.weaken (h : s.lawBut noSlot unjudged) (hop : ∀ o ∈ s.op, ¬ended o.slot)
    (hmore : ∀ m, unjudged m → unjudged' m) : s.lawBut ended unjudged' where
  reset := h.reset
  quiet := h.quiet
  still := h.still
  operation := fun o ho => ⟨hop o ho, (h.operation o ho).2⟩
  identifying := fun m _ => h.identifying m id
  armed := h.armed
  slots := h.slots
  fence := fun m hm => h.fence m (mt (hmore m) hm)
  fields := h.fields
  executing := h.executing
  holding := fun hh => ⟨.inl ((h.holding hh).1.resolve_right nofun), (h.holding hh).2⟩
  aborting := fun m hm => ⟨(h.aborting m hm).1, .inr ((h.aborting m hm).2.resolve_left nofun)⟩
  clearing := h.clearing

/-- Nothing waits on an operation where the command unit is IDLE (R148). -/
theorem State.lawBut.idle (h : s.lawBut ended unjudged) (hidle : s.cmd.executing = none) :
    s.arb.hold ≠ .holding ∧ ∀ m : Slot, (s.context m).abortPending = false := by
  refine ⟨fun hh => ?_, fun m => Bool.eq_false_iff.2 fun hm => ?_⟩
  · simpa [hidle] using (h.holding hh).2
  · simpa [hidle] using (h.aborting m hm).1

theorem Command.code_injective {c d : Command} (h : c.code = d.code) : c = d :=
  Option.some.inj ((commandOf_code c).symm.trans ((congrArg commandOf h).trans (commandOf_code d)))

/-- One command waits at a time (R148). -/
theorem State.waits_for_one {c d : Command} (hc : s.cmd.executing.map CommandRecord.code = some c.code) (hne : d ≠ c) :
    s.cmd.executing.map CommandRecord.code ≠ some d.code := fun hd =>
  hne (Command.code_injective (Option.some.inj (hd.symm.trans hc)))

/-! ## The end of an operation -/

/-- The operation record goes: its slot is left open in what waits for the operation, and a burst's slot in its count. -/
theorem State.lawBut.endOperation {o : Operation} (h : s.lawBut noSlot unjudged) (ho : s.op = some o)
    (hmore : ∀ m, unjudged m → unjudged' m) (hburst : (∃ b, o.kind = .burst b) → unjudged' o.slot) :
    State.lawBut { s with op := none } (· = o.slot) unjudged' := by
  obtain ⟨haccess, -, -⟩ := h.running ho
  refine ⟨h.reset, fun hq => ?_, fun _ => rfl, nofun, fun m hm hseat => ?_, h.armed, h.slots, fun m hm hfenced hempty => ?_,
    h.fields, h.executing, fun hh => ⟨.inr ⟨o.slot, rfl⟩, (h.holding hh).2⟩, fun m hm => ?_, h.clearing⟩
  · exact absurd hq (by simpa using haccess)
  · obtain ⟨p, w, hp, -, hslot⟩ := (s.identifyInFlight_iff m).1 (h.identifying m id hseat)
    exact absurd (hslot.symm.trans (by rw [Option.some.inj (hp.symm.trans ho)])) hm
  · refine .inl ((h.fence m (mt (hmore m) hm) hfenced hempty).resolve_right fun hb => hm ?_)
    obtain ⟨p, b, hp, hk, hslot, -⟩ := (s.endingBurst_iff m).1 hb.2
    obtain rfl := Option.some.inj (hp.symm.trans ho)
    exact hslot ▸ hburst ⟨b, hk⟩
  · obtain ⟨hcode, hnone | ⟨hending, x, hx, hphase⟩⟩ := h.aborting m hm
    · exact hnone.1.elim
    · obtain ⟨p, b, hp, -, hslot, -⟩ := (s.endingBurst_iff m).1 hending
      obtain rfl := Option.some.inj (hp.symm.trans ho)
      exact ⟨hcode, .inl ⟨hslot.symm, x, hx, fun hl => by simp [hl] at hphase⟩⟩

/-- Where nothing waits any more on the operation that ended, no slot is left open. -/
theorem State.lawBut.settled (h : s.lawBut (· = n) unjudged) (hident : (s.slot n).seat ≠ .identifying)
    (habort : (s.context n).abortPending = false) (hhold : s.arb.hold = .holding → s.op.isSome = true) :
    s.lawBut noSlot unjudged where
  reset := h.reset
  quiet := h.quiet
  still := h.still
  operation := fun o ho => ⟨id, (h.operation o ho).2⟩
  identifying := fun m _ hseat => h.identifying m (fun e => hident (e ▸ hseat)) hseat
  armed := h.armed
  slots := h.slots
  fence := h.fence
  fields := h.fields
  executing := h.executing
  holding := fun hh => ⟨.inl (hhold hh), (h.holding hh).2⟩
  aborting := fun m hm => by
    have hne : m ≠ n := by
      rintro rfl
      simp [habort] at hm
    exact ⟨(h.aborting m hm).1, .inr ((h.aborting m hm).2.resolve_left fun hn => hne hn.1)⟩
  clearing := h.clearing

theorem State.updateTurn_parts (s : State) (kind : OperationKind) (n : Slot) : (s.updateTurn kind n).parts = s.parts := by
  cases kind <;> rfl

/-- The arbiter takes the end of an operation: a HOLD that waited is completed (R56). -/
theorem State.lawBut.operationEnd (h : s.lawBut ended unjudged) (hop : s.op = none) (kind : OperationKind) (m : Slot) :
    (s.operationEnd kind m).lawBut ended unjudged ∧ (s.operationEnd kind m).arb.hold ≠ .holding := by
  have hturn : (s.updateTurn kind m).lawBut ended unjudged := h.of_parts (s.updateTurn_parts kind m)
  have hop' : (s.updateTurn kind m).op = none := (congrArg Parts.op (s.updateTurn_parts kind m)).trans hop
  unfold State.operationEnd
  generalize s.updateTurn kind m = u at hturn hop'
  obtain ⟨hholding, hother⟩ := u.completeHold_eq
  by_cases hh : u.arb.hold = .holding
  · rw [hholding hh]
    obtain ⟨-, hcode⟩ := hturn.holding hh
    refine ⟨⟨hturn.reset, fun hq => ?_, fun _ => hop', fun o ho => (nomatch hop'.symm.trans ho), hturn.identifying,
      hturn.armed, hturn.slots, hturn.fence, hturn.fields, nofun, nofun, fun k hk => ?_, fun hc ha => ?_⟩, nofun⟩
    · obtain ⟨-, -, hrun, -⟩ := hturn.quiet hq
      exact absurd (hrun.symm.trans hh) (by decide)
    · exact absurd (hturn.aborting k hk).1 (State.waits_for_one hcode (by decide))
    · exact absurd (hturn.clearing hc ha) (State.waits_for_one hcode (by decide))
  · rw [hother hh]
    exact ⟨hturn, hh⟩

end

end Sys2Proof.Machine
end

section
/-! SUPPORT. How a change of one slot's record and context, and of the operation record, keeps the laws that tie the blocks
together. -/

namespace Sys2Proof.Machine

section

variable {s t : State} {ended unjudged unjudged' : Slot → Prop} {n : Slot}

/-! ## One slot's record and context -/

/-- The state with another record and another context of a slot. -/
def State.put (s : State) (n : Slot) (r : SlotRecord) (c : Context) : State := (s.setSlot n r).setContext n c

theorem State.put_slot (s : State) (n m : Slot) (r : SlotRecord) (c : Context) :
    (s.put n r c).slot m = if n = m then r else s.slot m := s.slot_setSlot n m r

theorem State.put_context (s : State) (n m : Slot) (r : SlotRecord) (c : Context) :
    (s.put n r c).context m = if n = m then c else s.context m := (s.setSlot n r).context_setContext n m c

/-- What the law of an operation says of its slot is its seat state and whether its ident is present. -/
theorem State.operationLaw_of_seat {o : Operation} (h : s.operationLaw o)
    (hseat : (t.slot o.slot).seat = (s.slot o.slot).seat)
    (hident : (t.slot o.slot).ident.isSome = (s.slot o.slot).ident.isSome)
    (hcontext : t.context o.slot = s.context o.slot) : t.operationLaw o := by
  unfold State.operationLaw at h ⊢
  rw [hseat, hident, hcontext]
  exact h

/-- One slot's record and context change, neither its waiting ABORT nor the operation record. -/
theorem State.lawBut.put {r : SlotRecord} {c : Context} (h : s.lawBut ended unjudged) (haccess : s.takesAccess)
    (hlaw : r.law) (hident : r.seat = .identifying → ended n ∨ s.identifyInFlight n = true)
    (harmed : ∀ x, c.transfer = some x → x.phase = .armed → r.seat = .online ∧ r.transferCapable = true)
    (hfence : ¬unjudged' n → r.seat ≠ .fenced → r.seat ≠ .empty →
      r.errorCount < s.control.threshold ∨ (r.seat = .online ∧ s.endingBurst n = true))
    (hmore : ∀ m, m ≠ n → unjudged m → unjudged' m)
    (hop : ∀ o, s.op = some o → o.slot = n → (s.put n r c).operationLaw o)
    (hpending : c.abortPending = (s.context n).abortPending)
    (habort : c.abortPending = true → (ended n ∧ ∃ x ∈ c.transfer, x.phase ≠ .loading) ∨
      (s.endingBurst n = true ∧ ∃ x ∈ c.transfer, x.phase = .armed ∨ x.phase = .done)) :
    (s.put n r c).lawBut ended unjudged' := by
  have hslot := s.put_slot n
  have hcontext := s.put_context n
  have habort' : ∀ m, ((s.put n r c).context m).abortPending = (s.context m).abortPending := fun m => by
    rw [hcontext]
    split
    · next hm => rw [hpending, hm]
    · rfl
  refine ⟨h.reset, fun hq => ?_, h.still, fun o ho => ?_, fun m hm hseat => ?_, fun m hm => ?_, fun m => ?_,
    fun m hm hfenced hempty => ?_, h.fields, fun q hq => ?_, h.holding, fun m hm => ?_, h.clearing⟩
  · have hnot : ¬(s.lines.rstin = true ∨ s.starting = true) := by simpa using haccess
    exact absurd hq hnot
  · refine ⟨(h.operation o ho).1, ?_⟩
    by_cases hn : o.slot = n
    · exact hop o ho hn
    · exact State.operationLaw_congr (h.operation o ho).2 ((hslot _ _ _).trans (if_neg (Ne.symm hn)))
        ((hcontext _ _ _).trans (if_neg (Ne.symm hn)))
  · rw [hslot] at hseat
    split at hseat
    · next hn => exact (hident hseat).elim (fun he => absurd (hn ▸ he) hm) fun hi => hn ▸ hi
    · exact h.identifying m hm hseat
  · obtain ⟨x, hx, hphase⟩ := (State.armed_iff _ m).1 hm
    rw [hcontext] at hx
    rw [hslot]
    by_cases hn : n = m
    · rw [if_pos hn] at hx ⊢
      exact harmed x hx hphase
    · rw [if_neg hn] at hx ⊢
      exact h.armed m ((State.armed_iff s m).2 ⟨x, hx, hphase⟩)
  · rw [hslot]
    split
    · exact hlaw
    · exact h.slots m
  · rw [hslot] at hfenced hempty ⊢
    by_cases hn : n = m
    · subst hn
      rw [if_pos rfl] at hfenced hempty ⊢
      exact hfence hm hfenced hempty
    · rw [if_neg hn] at hfenced hempty ⊢
      exact h.fence m (fun hu => hm (hmore m (Ne.symm hn) hu)) hfenced hempty
  · refine (h.executing q hq).imp id (Or.imp id fun ⟨hcode, m, hm⟩ => ⟨hcode, m, (habort' m).trans hm⟩)
  · refine ⟨(h.aborting m ((habort' m).symm.trans hm)).1, ?_⟩
    rw [hcontext] at hm ⊢
    by_cases hn : n = m
    · subst hn
      rw [if_pos rfl] at hm ⊢
      exact habort hm
    · rw [if_neg hn] at hm ⊢
      exact (h.aborting m hm).2

/-- No burst of the slot is in flight. -/
def State.noBurst (s : State) (n : Slot) : Prop := ∀ o b, s.op = some o → o.kind = .burst b → o.slot ≠ n

theorem State.noBurst_of_none (h : s.op = none) : s.noBurst n := fun o b ho => by simp [h] at ho

theorem State.noBurst.endingBurst (h : s.noBurst n) : s.endingBurst n = false :=
  Bool.eq_false_iff.2 fun he => by
    obtain ⟨o, b, ho, hk, hslot, -⟩ := (s.endingBurst_iff n).1 he
    exact h o b ho hk hslot

/-- A burst in flight is of a slot that is ONLINE (R23). -/
theorem State.lawBut.noBurst (h : s.lawBut ended unjudged) (hseat : (s.slot n).seat ≠ .online) : s.noBurst n := by
  rintro ⟨kind, slot, index, window, phase⟩ b ho rfl rfl
  exact hseat (h.operation _ ho).2.2.1

/-- An ABORT waits for its burst, so that none waits at a slot with no burst in flight (R107). -/
theorem State.lawBut.abortPending_eq_false (h : s.lawBut ended unjudged) (hended : ¬ended n) (hno : s.noBurst n) :
    (s.context n).abortPending = false :=
  Bool.eq_false_iff.2 fun hm => by
    rcases (h.aborting n hm).2 with ⟨he, -⟩ | ⟨hending, -⟩
    · exact hended he
    · simp [hno.endingBurst] at hending

/-- An operation that is no burst does not look at the context of its slot. -/
theorem State.operationLaw_of_noBurst {o : Operation} (h : s.operationLaw o) (hno : ∀ b, o.kind ≠ .burst b)
    (hseat : (t.slot o.slot).seat = (s.slot o.slot).seat)
    (hident : (t.slot o.slot).ident.isSome = (s.slot o.slot).ident.isSome) : t.operationLaw o := by
  obtain ⟨kind, slot, index, window, phase⟩ := o
  cases kind with
  | identify w =>
    obtain ⟨hwindow, hs, hi⟩ := h
    exact ⟨hwindow, hseat.trans hs, hi⟩
  | acknowledge =>
    obtain ⟨hwindow, hs, hi, hx⟩ := h
    refine ⟨hwindow, ?_, hident.trans hi, hx⟩
    rw [hseat]
    exact hs
  | burst b => exact absurd rfl (hno b)

theorem State.parts_put (s : State) (n : Slot) (r : SlotRecord) (c : Context) :
    (s.put n r c).parts = { s.parts with slots := s.slots.set n r, contexts := s.contexts.set n c } := rfl

theorem State.parts_setSlot (s : State) (n : Slot) (r : SlotRecord) :
    (s.setSlot n r).parts = (s.put n r (s.context n)).parts := by
  rw [State.parts_put, State.set_context_self]
  rfl

theorem State.parts_setContext (s : State) (n : Slot) (c : Context) :
    (s.setContext n c).parts = (s.put n (s.slot n) c).parts := by
  rw [State.parts_put, State.set_slot_self]
  rfl

/-- Halting touches the context alone. -/
theorem State.parts_halt (s : State) (n : Slot) (r : HaltReason) :
    (s.halt n r).parts = (s.put n (s.slot n) ((s.context n).halted r)).parts := by
  rw [State.halt_eq, State.parts_put, State.set_slot_self]
  rfl

theorem Context.halted_not_armed {c : Context} {r : HaltReason} {x : Transfer} (h : (c.halted r).transfer = some x) :
    x.phase ≠ .armed := by
  obtain ⟨y, -, rfl⟩ := Option.map_eq_some_iff.1 h
  unfold Transfer.haltIfArmed
  split
  · nofun
  · assumption

/-- Halting leaves no LOADING context that was not there. -/
theorem Context.halted_not_loading {c : Context} {r : HaltReason} (h : ∃ x ∈ c.transfer, x.phase ≠ .loading) :
    ∃ x ∈ (c.halted r).transfer, x.phase ≠ .loading := by
  obtain ⟨x, hx, hphase⟩ := h
  refine ⟨x.haltIfArmed r, Option.map_eq_some_iff.2 ⟨x, hx, rfl⟩, ?_⟩
  unfold Transfer.haltIfArmed
  split
  · nofun
  · exact hphase

/-- The slot's record and its context, halted, with no burst of it in flight. -/
theorem State.lawBut.put_halted {r : SlotRecord} (h : s.lawBut ended unjudged) (haccess : s.takesAccess)
    (hno : s.noBurst n) (reason : HaltReason) (hlaw : r.law)
    (hident : r.seat = .identifying → ended n ∨ s.identifyInFlight n = true)
    (hfence : ¬unjudged' n → r.seat ≠ .fenced → r.seat ≠ .empty → r.errorCount < s.control.threshold)
    (hmore : ∀ m, m ≠ n → unjudged m → unjudged' m)
    (hop : ∀ o, s.op = some o → o.slot = n → (s.put n r ((s.context n).halted reason)).operationLaw o) :
    (s.put n r ((s.context n).halted reason)).lawBut ended unjudged' := by
  refine h.put haccess hlaw hident (fun x hx hphase => absurd hphase (Context.halted_not_armed hx))
    (fun hu hf he => .inl (hfence hu hf he)) hmore hop rfl fun hpending => ?_
  have habort : (s.context n).abortPending = true := hpending
  obtain ⟨-, ⟨hended, hx⟩ | ⟨hending, -⟩⟩ := h.aborting n habort
  · exact .inl ⟨hended, Context.halted_not_loading hx⟩
  · simp [hno.endingBurst] at hending

/-- Halting a context whose slot has no burst in flight (R102). -/
theorem State.lawBut.halt (h : s.lawBut ended unjudged) (haccess : s.takesAccess) (hno : s.noBurst n) (r : HaltReason) :
    (s.halt n r).lawBut ended unjudged := by
  refine State.lawBut.of_parts (h.put_halted haccess hno r (h.slots n) (fun hi => ?_) (fun hu hf he => ?_) (fun _ _ => id)
    fun o ho hn => ?_) (s.parts_halt n r)
  · by_cases he : ended n
    · exact .inl he
    · exact .inr (h.identifying n he hi)
  · refine (h.fence n hu hf he).resolve_right fun hb => ?_
    simp [hno.endingBurst] at hb
  · exact State.operationLaw_of_noBurst (h.operation o ho).2 (fun b hk => hno o b ho hk hn)
      (by rw [State.put_slot, if_pos hn.symm, hn]) (by rw [State.put_slot, if_pos hn.symm, hn])

/-- Other slots may be left open in their count. -/
theorem State.lawBut.with_fence (h : s.lawBut ended unjudged)
    (hfence : ∀ m, ¬unjudged' m → (s.slot m).seat ≠ .fenced → (s.slot m).seat ≠ .empty →
      (s.slot m).errorCount < s.control.threshold ∨ ((s.slot m).seat = .online ∧ s.endingBurst m = true)) :
    s.lawBut ended unjudged' :=
  ⟨h.reset, h.quiet, h.still, h.operation, h.identifying, h.armed, h.slots, hfence, h.fields, h.executing, h.holding,
    h.aborting, h.clearing⟩

/-- A slot's record changes in its mode, its count and its last error alone. -/
theorem State.lawBut.put_record {r : SlotRecord} (h : s.lawBut ended unjudged) (haccess : s.takesAccess)
    (hseat : r.seat = (s.slot n).seat) (htimer : r.timer = (s.slot n).timer) (hident : r.ident = (s.slot n).ident)
    (hzero : r.seat = .settling ∨ r.seat = .identifyWait ∨ r.seat = .identifying ∨ r.seat = .failed → r.errorCount = 0)
    (hfence : ¬unjudged' n → r.seat ≠ .fenced → r.seat ≠ .empty →
      r.errorCount < s.control.threshold ∨ (r.seat = .online ∧ s.endingBurst n = true))
    (hmore : ∀ m, m ≠ n → unjudged m → unjudged' m) : (s.setSlot n r).lawBut ended unjudged' := by
  refine State.lawBut.of_parts (h.put haccess ?_ (fun hi => ?_) (fun x hx hphase => ?_) hfence hmore
    (fun o ho hn => ?_) rfl fun hm => (h.aborting n hm).2) (s.parts_setSlot n r)
  · obtain ⟨h1, h2, h3, h4, h5, -⟩ := h.slots n
    refine ⟨?_, ?_, ?_, ?_, ?_, hzero⟩
    · rw [htimer, hseat]; exact h1
    · rw [htimer]; exact h2
    · rw [hseat, hident]; exact h3
    · rw [hident]; exact h4
    · rw [hseat, hident]; exact h5
  · by_cases he : ended n
    · exact .inl he
    · exact .inr (h.identifying n he (hseat ▸ hi))
  · rw [hseat, SlotRecord.transferCapable, hident]
    exact h.armed n ((State.armed_iff s n).2 ⟨x, hx, hphase⟩)
  · subst hn
    refine State.operationLaw_of_seat (h.operation o ho).2 ?_ ?_ ?_
    · rw [State.put_slot, if_pos rfl, hseat]
    · rw [State.put_slot, if_pos rfl, hident]
    · rw [State.put_context, if_pos rfl]

/-- A counted error leaves its slot to be judged (R116, R120). -/
theorem State.lawBut.countError (h : s.lawBut ended unjudged) (haccess : s.takesAccess) (e : LastError)
    (hn : unjudged' n) (hmore : ∀ m, m ≠ n → unjudged m → unjudged' m) : (s.countError n e).lawBut ended unjudged' := by
  unfold State.countError
  split
  · next hseat =>
    refine h.put_record haccess rfl rfl rfl (fun hz => ?_) (fun hu => absurd hn hu) hmore
    have hz' : (s.slot n).seat = .settling ∨ (s.slot n).seat = .identifyWait ∨ (s.slot n).seat = .identifying ∨
      (s.slot n).seat = .failed := hz
    rcases hseat with hs | hs <;> simp [hs] at hz'
  · exact h.with_fence fun m hm => h.fence m fun hu => hm (by
      by_cases hmn : m = n
      · exact hmn ▸ hn
      · exact hmore m hmn hu)

/-- Fencing keeps what a slot record is to meet (R120). -/
theorem SlotRecord.law.fenced {r : SlotRecord} (h : r.law) (honline : r.seat = .online) :
    SlotRecord.law { r with seat := .fenced } := by
  obtain ⟨h1, h2, h3, h4, -, -⟩ := h
  refine ⟨?_, h2, fun _ => h3 (.inl honline), h4, ?_, ?_⟩
  · simp only [honline] at h1
    simpa using h1
  · simp
  · simp

/-- A slot with no burst in flight is judged: it is fenced, or below the threshold (R118, R120). -/
theorem State.lawBut.judge (h : s.lawBut ended unjudged) (haccess : s.takesAccess) (hno : s.noBurst n)
    (k : Option ErrorKind) (hmore : ∀ m, m ≠ n → unjudged m → unjudged' m) : (s.judge n k).lawBut ended unjudged' := by
  rw [State.judge_eq]
  split
  · next hfenced =>
    obtain ⟨honline, -⟩ := (SlotRecord.fencedAt_iff _ _).1 hfenced
    have hput := h.put_halted (unjudged' := unjudged') (r := { s.slot n with seat := .fenced }) haccess hno .fenced
      ((h.slots n).fenced honline) nofun (fun _ hf => absurd rfl hf) hmore fun o ho hn => ?_
    · exact hput.of_parts rfl
    · have hlaw := (h.operation o ho).2
      subst hn
      obtain ⟨kind, slot, index, window, phase⟩ := o
      cases kind with
      | identify w => exact absurd (hlaw.2.1.symm.trans honline) (by decide)
      | acknowledge =>
        obtain ⟨hwindow, -, hident, hindex⟩ := hlaw
        refine ⟨hwindow, .inr (.inl ?_), ?_, hindex⟩
        · rw [State.put_slot, if_pos rfl]
        · rw [State.put_slot, if_pos rfl]
          exact hident
      | burst b => exact absurd rfl (hno _ b ho rfl)
  · next hbelow =>
    refine h.with_fence fun m hm hf he => ?_
    by_cases hmn : m = n
    · subst hmn
      by_cases honline : (s.slot m).seat = .online
      · refine .inl (not_le.1 fun hle => hbelow ((SlotRecord.fencedAt_iff _ _).2 ⟨honline, hle⟩))
      · exact .inl (h.count_lt honline hf he)
    · exact h.fence m (fun hu => hm (hmore m hmn hu)) hf he

end

end Sys2Proof.Machine
end

section
/-! SUPPORT. How the end of an operation, the next of its word cycles and the start of another keep the laws that tie the blocks
together. -/

namespace Sys2Proof.Machine

section

variable {s t : State} {ended unjudged unjudged' : Slot → Prop} {n : Slot}

/-! ## A waiting ABORT settled -/

/-- The part once an ABORT that waited is settled: its context is not ARMED, and the command unit is IDLE (R108). -/
theorem State.lawBut.abortSettled (h : s.lawBut (· = n) unjudged) (haccess : s.takesAccess) (hop : s.op = none)
    (hpending : (s.context n).abortPending = true) {x : Transfer} (hx : x.phase ≠ .armed) :
    State.lawBut { s with
      contexts := s.contexts.set n { transfer := some x, abortPending := false }
      cmd := { s.cmd with executing := none } } (· = n) unjudged := by
  obtain ⟨hcode, -⟩ := h.aborting n hpending
  have hcontext : ∀ m, (s.contexts.set n ⟨some x, false⟩)[m] = if n = m then ⟨some x, false⟩ else s.context m :=
    fun m => vector_get_set _ n m _
  refine ⟨h.reset, fun hq => ?_, h.still, fun o ho => (nomatch hop.symm.trans ho), h.identifying, fun m hm => ?_, h.slots,
    h.fence, h.fields, nofun, fun hh => absurd (h.holding hh).2 (State.waits_for_one hcode (by decide)), fun m hm => ?_,
    fun hc ha => absurd (h.clearing hc ha) (State.waits_for_one hcode (by decide))⟩
  · have hno : ¬(s.lines.rstin = true ∨ s.starting = true) := by simpa using haccess
    exact absurd hq hno
  · obtain ⟨y, hy, hphase⟩ := (State.armed_iff _ m).1 hm
    have hy' : (s.contexts.set n ⟨some x, false⟩)[m].transfer = some y := hy
    rw [hcontext] at hy'
    split at hy'
    · cases hy'
      exact absurd hphase hx
    · exact h.armed m ((State.armed_iff s m).2 ⟨y, hy', hphase⟩)
  · have hm' : (s.contexts.set n ⟨some x, false⟩)[m].abortPending = true := hm
    rw [hcontext] at hm'
    split at hm'
    · exact absurd hm' Bool.false_ne_true
    · next hne =>
      obtain ⟨-, ⟨rfl, -⟩ | ⟨hending, -⟩⟩ := h.aborting m hm'
      · exact absurd rfl hne
      · simp [(State.noBurst_of_none hop).endingBurst] at hending

/-- Settling a waiting ABORT once its operation is gone (R108). -/
theorem State.lawBut.settleAbort (h : s.lawBut (· = n) unjudged) (haccess : s.takesAccess)
    (hop : (s.context n).abortPending = true → s.op = none) :
    (s.settleAbort n).lawBut (· = n) unjudged ∧ ((s.settleAbort n).context n).abortPending = false := by
  cases hpending : (s.context n).abortPending with
  | false =>
    rw [State.settleAbort_of_clear s n hpending]
    exact ⟨h, hpending⟩
  | true =>
    obtain ⟨x, hx, hphase⟩ : ∃ x, (s.context n).transfer = some x ∧ x.phase ≠ .loading := by
      obtain ⟨-, ⟨-, x, hx, hphase⟩ | ⟨hending, -⟩⟩ := h.aborting n hpending
      · exact ⟨x, hx, hphase⟩
      · simp [(State.noBurst_of_none (hop hpending)).endingBurst] at hending
    by_cases harmed : x.phase = .armed
    · have hlaw := h.abortSettled haccess (hop hpending) hpending (x := { x with phase := .halted .aborted }) nofun
      rw [State.settleAbort_of_armed s n x hpending hx harmed]
      exact ⟨hlaw.of_parts rfl, congrArg Context.abortPending (State.context_set_self _ _ _)⟩
    · have hended : x.phase = .done ∨ ∃ r, x.phase = .halted r := by
        cases hp : x.phase with
        | loading => exact absurd hp hphase
        | armed => exact absurd hp harmed
        | done => exact .inl rfl
        | halted r => exact .inr ⟨r, rfl⟩
      have hlaw := h.abortSettled haccess (hop hpending) hpending harmed
      rw [State.settleAbort_of_ended s n x hpending hx hended]
      exact ⟨hlaw.of_parts rfl, congrArg Context.abortPending (State.context_set_self _ _ _)⟩

/-! ## The end of a burst -/

/-- The seat monitor's part of a burst's end: its slot is judged, and stays past identification (R115, R118, R122). -/
theorem State.lawBut.burstOutcome (h : s.lawBut ended unjudged) (haccess : s.takesAccess) (hop : s.op = none)
    (cause : EndCause) (hn : unjudged n) (hmore : ∀ m, m ≠ n → unjudged m → unjudged' m) :
    (s.burstOutcome n cause).lawBut ended unjudged' := by
  have hno : ∀ {u : State}, u.op = none → u.noBurst n := fun hu => State.noBurst_of_none hu
  cases cause with
  | error kind index =>
    refine State.lawBut.judge (h.countError haccess _ hn fun _ _ => id) ?_ (hno ?_) _ hmore
    · rw [State.countError_frame]
      exact haccess
    · rw [State.countError_frame]
      exact hop
  | sizeReached => exact h.judge haccess (hno hop) none hmore
  | cardStop => exact h.judge haccess (hno hop) none hmore
  | boundary => exact h.judge haccess (hno hop) none hmore

theorem State.judge_seat (s : State) (n m : Slot) (k : Option ErrorKind) :
    ((s.judge n k).slot m).seat = (s.slot m).seat ∨ ((s.judge n k).slot m).seat = .fenced := by
  rw [State.judge_eq]
  split
  · have hslot := vector_get_set s.slots n m { s.slot n with seat := .fenced }
    by_cases hm : n = m
    · exact .inr (congrArg SlotRecord.seat (hslot.trans (if_pos hm)))
    · exact .inl (congrArg SlotRecord.seat (hslot.trans (if_neg hm)))
  · exact .inl rfl

theorem State.countError_seat (s : State) (n m : Slot) (e : LastError) :
    ((s.countError n e).slot m).seat = (s.slot m).seat := by
  unfold State.countError
  split
  · rw [State.slot_setSlot]
    split
    · next hm => rw [hm]
    · rfl
  · rfl

theorem State.burstOutcome_seat (s : State) (n m : Slot) (cause : EndCause) :
    ((s.burstOutcome n cause).slot m).seat = (s.slot m).seat ∨ ((s.burstOutcome n cause).slot m).seat = .fenced := by
  cases cause with
  | error kind index =>
    have h := State.judge_seat (s.countError n ⟨kind, .burst, index⟩) n m (some kind)
    rw [State.countError_seat] at h
    exact h
  | sizeReached => exact s.judge_seat n m none
  | cardStop => exact s.judge_seat n m none
  | boundary => exact s.judge_seat n m none

/-- A burst's end where its operation record is gone already: judged, a waiting ABORT settled, the arbiter told (R29). -/
theorem State.lawBut.endBurst_of_gone (h : s.lawBut (· = n) unjudged) (haccess : s.takesAccess) (hop : s.op = none)
    (hseat : (s.slot n).seat = .online) (hn : unjudged n) (hmore : ∀ m, m ≠ n → unjudged m → unjudged' m)
    (cause : EndCause) (k : OperationKind) :
    (((s.burstOutcome n cause).settleAbort n).operationEnd k n).lawBut noSlot unjudged' := by
  have hframe := s.burstOutcome_frame n cause
  have hjudged := h.burstOutcome (unjudged' := unjudged') haccess hop cause hn hmore
  have hseat' := s.burstOutcome_seat n n cause
  have hop' : (s.burstOutcome n cause).op = none := by rw [hframe]; exact hop
  have haccess' : (s.burstOutcome n cause).takesAccess := by rw [hframe]; exact haccess
  generalize s.burstOutcome n cause = u at hjudged hseat' hop' haccess'
  obtain ⟨hsettled, habort⟩ := hjudged.settleAbort haccess' fun _ => hop'
  have hframe' := u.settleAbort_frame n
  have hop'' : (u.settleAbort n).op = none := by rw [hframe']; exact hop'
  have hseat'' : ((u.settleAbort n).slot n).seat ≠ .identifying := by
    rw [hframe']
    show (u.slot n).seat ≠ .identifying
    rcases hseat' with hs | hs <;> simp [hs, hseat]
  generalize u.settleAbort n = v at hsettled habort hop'' hseat''
  obtain ⟨hlaw, hhold⟩ := hsettled.operationEnd hop'' k n
  rw [State.operationEnd_frame] at hlaw hhold ⊢
  exact hlaw.settled hseat'' habort fun hh => absurd hh hhold

/-- The end of a burst leaves its slot judged (R29, R101, R108, R120). -/
theorem State.lawBut.endBurst {o : Operation} {b : Burst} (h : s.lawBut noSlot unjudged) (ho : s.op = some o)
    (hk : o.kind = .burst b) {o' : Operation} (hslot : o'.slot = o.slot) (cause : EndCause)
    (hmore : ∀ m, m ≠ o.slot → unjudged m → unjudged' m) : (s.endBurst o' cause).lawBut noSlot unjudged' := by
  have honline : (s.slot o.slot).seat = .online := by
    by_contra hne
    exact h.noBurst hne o b ho hk rfl
  have hgone := h.endOperation (unjudged' := fun m => m = o.slot ∨ unjudged m) ho (fun _ => .inr) fun _ => .inl rfl
  unfold State.endBurst
  rw [hslot]
  exact State.lawBut.endBurst_of_gone hgone (h.running ho).1 rfl honline (.inl rfl)
    (fun m hm hu => hmore m hm (hu.resolve_left hm)) cause o'.kind

/-! ## The end of an IDENTIFY or ACKNOWLEDGE -/

/-- With an operation in flight that is no burst no ABORT waits (R107). -/
theorem State.lawBut.no_abort {o : Operation} (h : s.lawBut noSlot unjudged) (ho : s.op = some o)
    (hk : ∀ b, o.kind ≠ .burst b) (m : Slot) : (s.context m).abortPending = false :=
  h.abortPending_eq_false id fun p b hp hb _ => by
    obtain rfl := Option.some.inj (hp.symm.trans ho)
    exact hk b hb

/-- The end at the arbiter of an operation that is gone and left nothing waiting but a HOLD (R40, R56). -/
theorem State.lawBut.operationEnd_settled (h : s.lawBut (· = n) unjudged) (hop : s.op = none)
    (hseat : (s.slot n).seat ≠ .identifying) (habort : (s.context n).abortPending = false) (k : OperationKind) :
    (s.operationEnd k n).lawBut noSlot unjudged := by
  obtain ⟨hlaw, hhold⟩ := h.operationEnd hop k n
  rw [State.operationEnd_frame] at hlaw hhold ⊢
  exact hlaw.settled hseat habort fun hh => absurd hh hhold

/-- The end of an ACKNOWLEDGE (R29, R31). -/
theorem State.lawBut.endAcknowledge {o : Operation} (h : s.lawBut noSlot noSlot) (ho : s.op = some o)
    (hk : o.kind = .acknowledge) (outcome : AcknowledgeOutcome) : (s.endAcknowledge o outcome).lawBut noSlot noSlot := by
  have hnoburst : ∀ b, o.kind ≠ .burst b := fun b hb => by simp [hk] at hb
  have habort : ((State.context { s with op := none } o.slot)).abortPending = false := h.no_abort ho hnoburst o.slot
  have hseat : (State.slot { s with op := none } o.slot).seat ≠ .identifying := by
    obtain ⟨kind, slot, index, window, phase⟩ := o
    cases hk
    rcases (h.operation _ ho).2.2.1 with hs | hs | hs <;>
      exact fun hi => absurd (hs.symm.trans hi) (by decide)
  have hgone : State.lawBut { s with op := none } (· = o.slot) noSlot :=
    h.endOperation ho (fun _ => id) fun ⟨b, hb⟩ => hnoburst b hb
  have haccess : State.takesAccess { s with op := none } := (h.running ho).1
  have hop : State.op { s with op := none } = none := rfl
  unfold State.endAcknowledge
  generalize ({ s with op := none } : State) = u at habort hseat hgone haccess hop
  cases outcome with
  | vector w => exact State.lawBut.operationEnd_settled (s := u.appendVector o.slot w) (hgone.of_parts rfl) hop hseat habort _
  | withdrawn => exact hgone.operationEnd_settled hop hseat habort _
  | error kind =>
    have hframe := u.countError_frame o.slot ⟨kind, .acknowledge, 0⟩
    have hcounted := hgone.countError (unjudged' := (· = o.slot)) haccess ⟨kind, .acknowledge, 0⟩ rfl nofun
    have hseat' := u.countError_seat o.slot o.slot ⟨kind, .acknowledge, 0⟩
    have hjudge := State.lawBut.judge (unjudged' := noSlot) hcounted (by rw [hframe]; exact haccess)
      (State.noBurst_of_none (by rw [hframe]; exact hop)) (some kind) fun m hm hu => hm hu
    refine hjudge.operationEnd_settled ?_ ?_ ?_ _
    · rw [State.judge_frame, hframe]
      exact hop
    · rcases State.judge_seat (u.countError o.slot ⟨kind, .acknowledge, 0⟩) o.slot o.slot (some kind) with hs | hs
      · rw [hs, hseat']
        exact hseat
      · rw [hs]
        decide
    · rw [State.judge_abortPending, hframe]
      exact habort

/-- The records in which an IDENTIFY leaves its slot (R10, R11). -/
theorem SlotRecord.law.identified {r : SlotRecord} (h : r.law) (hseat : r.seat = .identifying) {i : Ident}
    (hi : i.failedCheck = none) : SlotRecord.law { r with seat := .online, ident := some i, errorCount := 0 } := by
  obtain ⟨h1, h2, -, -, -, -⟩ := h
  refine ⟨?_, h2, fun _ => rfl, ?_, ?_, ?_⟩
  · simp only [hseat] at h1
    simpa using h1
  · rintro _ ⟨⟩
    exact hi
  · simp
  · simp

theorem SlotRecord.law.failed {r : SlotRecord} (h : r.law) (hseat : r.seat = .identifying) (e : LastError) :
    SlotRecord.law { r with seat := .failed, ident := none, lastError := some e } := by
  obtain ⟨h1, h2, -, -, -, h6⟩ := h
  refine ⟨?_, h2, ?_, nofun, fun _ => rfl, fun _ => h6 (.inr (.inr (.inl hseat)))⟩
  · simp only [hseat] at h1
    simpa using h1
  · simp

theorem SeatState.online_ne_identifying : SeatState.online ≠ .identifying := by decide

theorem SeatState.failed_ne_identifying : SeatState.failed ≠ .identifying := by decide

/-- The end of an IDENTIFY (R8 to R11, R29). -/
theorem State.lawBut.endIdentify {o : Operation} {w : Option Word} (h : s.lawBut noSlot noSlot) (ho : s.op = some o)
    (hk : o.kind = .identify w) (outcome : IdentifyOutcome) : (s.endIdentify o outcome).lawBut noSlot noSlot := by
  have hnoburst : ∀ b, o.kind ≠ .burst b := fun b hb => by simp [hk] at hb
  have hseat : (s.slot o.slot).seat = .identifying := by
    obtain ⟨kind, slot, index, window, phase⟩ := o
    cases hk
    exact (h.operation _ ho).2.2.1
  have habort := h.no_abort ho hnoburst o.slot
  have hgone : State.lawBut { s with op := none } (· = o.slot) noSlot :=
    h.endOperation ho (fun _ => id) fun ⟨b, hb⟩ => hnoburst b hb
  obtain ⟨-, -, -, -, -, hcount⟩ := h.slots o.slot
  have hzero : (s.slot o.slot).errorCount = 0 := hcount (.inr (.inr (.inl hseat)))
  have hnotArmed : ∀ x, (s.context o.slot).transfer = some x → x.phase ≠ .armed := fun x hx hphase => by
    have honline := (h.armed o.slot ((State.armed_iff s o.slot).2 ⟨x, hx, hphase⟩)).1
    exact absurd (hseat.symm.trans honline) (by decide)
  have hput : ∀ r : SlotRecord, r.law → r.errorCount = 0 → r.seat ≠ .identifying → ∀ t : State,
      t.parts = (State.put { s with op := none } o.slot r (s.context o.slot)).parts →
      (t.operationEnd o.kind o.slot).lawBut noSlot noSlot := fun r hlaw hcount hr t ht => by
    have hlaw' := hgone.put (n := o.slot) (unjudged' := noSlot) (c := s.context o.slot) (h.running ho).1 hlaw
      (fun _ => .inl rfl)
      (fun x hx hphase => absurd hphase (hnotArmed x hx))
      (fun _ _ _ => .inl (by rw [hcount]; exact h.fields.1)) (fun _ _ => id)
      (fun p hp => absurd hp (Option.some_ne_none p).symm) rfl
      (fun hp => absurd (habort.symm.trans hp) Bool.false_ne_true)
    have hslots : t.slots = s.slots.set o.slot r := congrArg Parts.slots ht
    have hcontexts : t.contexts = s.contexts.set o.slot (s.context o.slot) := congrArg Parts.contexts ht
    refine (hlaw'.of_parts ht).operationEnd_settled (congrArg Parts.op ht) ?_ ?_ _
    · rw [State.slot, hslots, vector_get_set, if_pos rfl]
      exact hr
    · rw [State.context, hcontexts, vector_get_set, if_pos rfl]
      exact habort
  have hself : ∀ r : SlotRecord, (State.setSlot { s with op := none } o.slot r).parts =
      (State.put { s with op := none } o.slot r (s.context o.slot)).parts := fun r => State.parts_setSlot _ o.slot r
  have hfail : ∀ kind index,
      ((State.failIdentify { s with op := none } o.slot kind index).operationEnd o.kind o.slot).lawBut noSlot noSlot :=
    fun kind index => hput _ ((h.slots o.slot).failed hseat _) hzero SeatState.failed_ne_identifying _ (hself _)
  have hseat' : (State.slot { s with op := none } o.slot).seat = .identifying := hseat
  cases outcome with
  | good w0 w1 =>
    rw [State.endIdentify, State.identifyOutcome, if_pos hseat']
    simp only
    split
    · next hvalid => exact hput _ ((h.slots o.slot).identified hseat hvalid) rfl SeatState.online_ne_identifying _ (hself _)
    · exact hfail _ _
  | error kind index =>
    rw [State.endIdentify, State.identifyOutcome, if_pos hseat']
    exact hfail kind index

end

end Sys2Proof.Machine
end

section
/-! SUPPORT. How an operation that goes on or starts keeps the laws that tie the blocks together. -/

namespace Sys2Proof.Machine

section

variable {s t : State} {ended unjudged unjudged' : Slot → Prop} {n : Slot}

/-! ## An operation record that comes, or comes in the place of another -/

theorem State.endingBurst_of_none (h : s.op = none) (m : Slot) : s.endingBurst m = false :=
  (State.noBurst_of_none h).endingBurst

/-- The end of this operation, a burst, has been asked for (R36). -/
def Operation.ending (o : Operation) : Prop := ∃ b, o.kind = .burst b ∧ b.boundary = true

/-- An operation in flight of the slot left open. -/
theorem State.lawBut.setOperation {o : Operation} (h : s.lawBut (· = n) unjudged) (hop : s.op = none)
    (haccess : s.takesAccess) (hclear : s.clear = false) (hhold : s.arb.hold ≠ .held) (hslot : o.slot = n)
    (hlaw : s.operationLaw o) (hident : (s.slot n).seat = .identifying → ∃ w, o.kind = .identify w)
    (hfence : ¬unjudged' n → (s.slot n).seat ≠ .fenced → (s.slot n).seat ≠ .empty →
      (s.slot n).errorCount < s.control.threshold ∨ ((s.slot n).seat = .online ∧ o.ending))
    (hmore : ∀ m, m ≠ n → unjudged m → unjudged' m)
    (habort : (s.context n).abortPending = true → o.ending ∧ ∃ x ∈ (s.context n).transfer, x.phase = .armed ∨ x.phase = .done) :
    State.lawBut { s with op := some o } noSlot unjudged' := by
  have hending : o.ending → State.endingBurst { s with op := some o } n = true := fun ⟨b, hb, hboundary⟩ =>
    (State.endingBurst_iff _ n).2 ⟨o, b, rfl, hb, hslot, hboundary⟩
  refine ⟨h.reset, fun hq => ?_, fun hq => ?_, ?_, fun m _ hm => ?_, h.armed, h.slots, fun m hm hf he => ?_, h.fields,
    h.executing, fun hh => ⟨.inl rfl, (h.holding hh).2⟩, fun m hm => ?_, h.clearing⟩
  · have hnot : ¬(s.lines.rstin = true ∨ s.starting = true) := by simpa using haccess
    exact absurd hq hnot
  · exact (hq.elim (fun hc => absurd (hclear.symm.trans hc) Bool.false_ne_true) fun hh => absurd hh hhold)
  · rintro _ ⟨⟩
    exact ⟨id, hlaw⟩
  · by_cases hn : m = n
    · subst hn
      obtain ⟨w, hw⟩ := hident hm
      exact (State.identifyInFlight_iff _ m).2 ⟨o, w, rfl, hw, hslot⟩
    · obtain ⟨p, w, hp, -⟩ := (s.identifyInFlight_iff m).1 (h.identifying m hn hm)
      simp [hop] at hp
  · by_cases hn : m = n
    · subst hn
      exact (hfence hm hf he).imp id fun ⟨hs, hb⟩ => ⟨hs, hending hb⟩
    · refine .inl ((h.fence m (fun hu => hm (hmore m hn hu)) hf he).resolve_right fun hb => ?_)
      simp [State.endingBurst_of_none hop] at hb
  · obtain ⟨hcode, hwaits⟩ := h.aborting m hm
    refine ⟨hcode, .inr ?_⟩
    by_cases hn : m = n
    · subst hn
      exact ⟨hending (habort hm).1, (habort hm).2⟩
    · rcases hwaits with ⟨he, -⟩ | ⟨hb, -⟩
      · exact absurd he hn
      · simp [State.endingBurst_of_none hop] at hb

/-- The operation record goes on as another of the same slot. -/
theorem State.lawBut.replaceOperation {o o' : Operation} (h : s.lawBut noSlot unjudged) (ho : s.op = some o)
    (hslot : o'.slot = o.slot) (hlaw : s.operationLaw o')
    (hident : ∀ w, o.kind = .identify w → ∃ w', o'.kind = .identify w') (hending : o.ending → o'.ending)
    (hmore : ∀ m, m ≠ o.slot → unjudged m → unjudged' m) (hjudged : ¬unjudged' o.slot → unjudged o.slot → o'.ending) :
    State.lawBut { s with op := some o' } noSlot unjudged' := by
  obtain ⟨haccess, hclear, hhold⟩ := h.running ho
  have hgone := h.endOperation (unjudged' := fun m => m = o.slot ∨ unjudged m) ho (fun _ => .inr) fun _ => .inl rfl
  have hends : s.endingBurst o.slot = true → o'.ending := fun he => by
    obtain ⟨p, b, hp, hb, -, hboundary⟩ := (s.endingBurst_iff _).1 he
    obtain rfl := Option.some.inj (hp.symm.trans ho)
    exact hending ⟨b, hb, hboundary⟩
  refine State.lawBut.setOperation (s := { s with op := none }) hgone rfl haccess hclear hhold hslot hlaw (fun hi => ?_)
    (fun hu hf he => ?_) (fun m hm hu => hmore m hm (hu.resolve_left hm)) fun hm => ?_
  · obtain ⟨p, w, hp, hw, -⟩ := (s.identifyInFlight_iff _).1 (h.identifying o.slot id hi)
    obtain rfl := Option.some.inj (hp.symm.trans ho)
    exact hident w hw
  · by_cases hun : unjudged o.slot
    · refine .inr ⟨?_, hjudged hu hun⟩
      obtain ⟨b, hb, -⟩ := hjudged hu hun
      obtain ⟨kind, slot, index, window, phase⟩ := o'
      cases hb
      cases hslot
      exact hlaw.2.1
    · exact (h.fence o.slot hun hf he).imp id fun ⟨hs, hb⟩ => ⟨hs, hends hb⟩
  · obtain ⟨-, ⟨⟨⟩, -⟩ | ⟨hb, hx⟩⟩ := h.aborting o.slot hm
    exact ⟨hends hb, hx⟩

/-! ## Word cycles -/

/-- An operation whose record changes in its phase and in what it drives alone. -/
theorem State.lawBut.replace_same {o o' : Operation} (h : s.lawBut noSlot noSlot) (ho : s.op = some o)
    (hslot : o'.slot = o.slot) (hlaw : s.operationLaw o') (hident : ∀ w, o.kind = .identify w → ∃ w', o'.kind = .identify w')
    (hending : o.ending → o'.ending) : State.lawBut { s with op := some o' } noSlot noSlot :=
  h.replaceOperation ho hslot hlaw hident hending (fun _ _ => id) fun _ hu => hu.elim

/-- The release of a word cycle drives no data line (R25). -/
theorem State.operationLaw.released {o : Operation} {a : Answer} (h : s.operationLaw o) (ha : o.phase = .answered a) :
    s.operationLaw { o with kind := o.kind.undriven, phase := .released a } := by
  obtain ⟨kind, slot, index, window, phase⟩ := o
  cases ha
  cases kind with
  | identify w => exact h
  | acknowledge => exact h
  | burst b =>
    obtain ⟨hwindow, hseat, hsize, -, -, -, hrest⟩ := h
    exact ⟨hwindow, hseat, hsize, fun _ => rfl, fun _ _ => rfl, fun _ => nofun, hrest⟩

theorem OperationKind.undriven_ending {o : Operation} {p : WordPhase} (h : o.ending) :
    Operation.ending { o with kind := o.kind.undriven, phase := p } := by
  obtain ⟨b, hb, hboundary⟩ := h
  exact ⟨{ b with driven := none }, by simp [OperationKind.undriven, hb], hboundary⟩

theorem State.lawBut.releaseWord {o : Operation} {a : Answer} (h : s.lawBut noSlot noSlot) (ho : s.op = some o)
    (ha : o.phase = .answered a) : (s.releaseWord o a).lawBut noSlot noSlot :=
  h.replace_same ho rfl ((h.operation o ho).2.released ha) (fun w hw => ⟨w, by simp [OperationKind.undriven, hw]⟩)
    OperationKind.undriven_ending

/-- The strobe driven before a reply is taken (R25). -/
theorem State.operationLaw.strobed {o : Operation} (h : s.operationLaw o) (ha : o.phase.answer = none) :
    s.operationLaw { o with phase := .strobed } := by
  obtain ⟨kind, slot, index, window, phase⟩ := o
  cases kind with
  | identify w => exact h
  | acknowledge => exact h
  | burst b =>
    obtain ⟨hwindow, hseat, hsize, hinput, -, -, hmoved, hshort, hrest⟩ := h
    have hnot : Operation.wordMoved ⟨.burst b, slot, index, window, phase⟩ = false := by
      have ha' : phase.answer = none := ha
      simp [Operation.wordMoved, ha']
    rw [hnot] at hmoved hshort
    exact ⟨hwindow, hseat, hsize, hinput, fun _ => nofun, fun _ => nofun, hmoved, hshort, hrest⟩

theorem State.lawBut.strobed (h : s.lawBut noSlot noSlot) (ha : ∀ o, s.op = some o → o.phase.answer = none) :
    s.strobed.lawBut noSlot noSlot := by
  rcases ho : s.op with _ | o
  · rw [State.strobed_of_none ho]
    exact h
  · rw [State.strobed_of_op ho]
    exact h.replace_same ho rfl ((h.operation o ho).2.strobed (ha o ho)) (fun w hw => ⟨w, hw⟩) id

/-- Phase 4 of a word cycle whose reply moves no burst word (R27). -/
theorem State.operationLaw.answered {o : Operation} {a : Answer} (h : s.operationLaw o) (ha : o.phase = .strobed)
    (hkept : ∀ b, o.kind = .burst b → a.moves b.direction = false) : s.operationLaw { o with phase := .answered a } := by
  obtain ⟨kind, slot, index, window, phase⟩ := o
  cases ha
  cases kind with
  | identify w => exact h
  | acknowledge => exact h
  | burst b =>
    obtain ⟨hwindow, hseat, hsize, hinput, -, -, hmoved, hshort, hrest⟩ := h
    have hnot : Operation.wordMoved ⟨.burst b, slot, index, window, .answered a⟩ = false := hkept b rfl
    refine ⟨hwindow, hseat, hsize, hinput, fun _ => nofun, fun _ => nofun, ?_, ?_, hrest⟩
    · rw [hnot]
      exact hmoved
    · rw [hnot]
      exact hshort

/-! ## A burst word moved -/

/-- A transfer with one word more moved, DONE with its last (R99, R100). -/
def Transfer.countWord (x : Transfer) : Transfer :=
  if x.moved + 1 = x.count then { x with moved := x.moved + 1, phase := .done } else { x with moved := x.moved + 1 }

/-- A slot record with one word more moved of its transfer: the count is 0 with the last (R100). -/
def SlotRecord.countWord (r : SlotRecord) (x : Transfer) : SlotRecord :=
  if x.moved + 1 = x.count then { r with errorCount := 0 } else r

theorem State.parts_storeReceived (s : State) (x : Transfer) (data : Word) : (s.storeReceived x data).parts = s.parts := by
  unfold State.storeReceived
  split <;> rfl

/-- A word moved, in what the laws look at (R99, R100). -/
theorem State.parts_moveWord {x : Transfer} (hx : (s.context n).transfer = some x) (harmed : x.phase = .armed)
    (d : Direction) (data : Word) :
    (s.moveWord n d data).parts =
      (s.put n ((s.slot n).countWord x) { s.context n with transfer := some x.countWord }).parts := by
  have hmoved : ∀ u : State, u.parts = s.parts →
      (if x.moved + 1 = x.count then
        ((u.setTransfer n { x with moved := x.moved + 1, phase := .done }).reportTransfer n .done x x.count).clearErrors n
      else u.setTransfer n { x with moved := x.moved + 1 }).parts =
        (s.put n ((s.slot n).countWord x) { s.context n with transfer := some x.countWord }).parts := fun u hu => by
    have hslots : u.slots = s.slots := congrArg Parts.slots hu
    have hcontexts : u.contexts = s.contexts := congrArg Parts.contexts hu
    have hslot : u.slot n = s.slot n := by rw [State.slot, hslots]; rfl
    have hcontext : u.context n = s.context n := by rw [State.context, hcontexts]; rfl
    rw [State.parts_put, ← hu, ← hslots, ← hcontexts, ← hslot, ← hcontext]
    unfold Transfer.countWord SlotRecord.countWord
    split
    · rfl
    · rw [State.set_slot_self]
      rfl
  unfold State.moveWord
  rw [hx]
  dsimp only
  rw [if_pos harmed]
  cases d with
  | input => exact hmoved _ (s.parts_storeReceived x data)
  | output => exact hmoved s rfl

theorem SlotRecord.countWord_same (r : SlotRecord) (x : Transfer) :
    (r.countWord x).seat = r.seat ∧ (r.countWord x).timer = r.timer ∧ (r.countWord x).ident = r.ident := by
  unfold SlotRecord.countWord
  split <;> exact ⟨rfl, rfl, rfl⟩

theorem SlotRecord.law.countWord {r : SlotRecord} (h : r.law) (x : Transfer) : (r.countWord x).law := by
  unfold SlotRecord.countWord
  split
  · obtain ⟨h1, h2, h3, h4, h5, -⟩ := h
    exact ⟨h1, h2, h3, h4, h5, fun _ => rfl⟩
  · exact h

theorem Transfer.countWord_phase {x : Transfer} (h : x.phase = .armed) :
    x.countWord.phase = .armed ∨ x.countWord.phase = .done := by
  unfold Transfer.countWord
  split
  · exact .inr rfl
  · exact .inl h

/-- The law of a burst whose reply has moved a word, its context counted along (R23, R33, R34, R97). -/
theorem State.operationLaw.moved {o : Operation} {b : Burst} {x : Transfer} {a : Answer} (h : s.operationLaw o)
    (hk : o.kind = .burst b) (ha : o.phase = .strobed) (hx : (s.context o.slot).transfer = some x)
    (hmoves : a.moves b.direction = true) (hseat' : (t.slot o.slot).seat = (s.slot o.slot).seat)
    (hcontext : (t.context o.slot).transfer = some x.countWord) : t.operationLaw (o.answered b a) := by
  obtain ⟨kind, slot, index, window, phase⟩ := o
  cases hk
  cases ha
  obtain ⟨hwindow, hseat, hsize, hinput, -, -, hmoved, hshort, -, hctx⟩ := h
  have hmoved' : b.moved = index := hmoved
  have hshort' : b.moved < b.size := hshort.resolve_right fun hr => Bool.false_ne_true hr.2
  obtain ⟨harmed, hdirection, hleft⟩ := hctx x hx hshort'
  have hword : Operation.wordMoved (Operation.answered ⟨.burst b, slot, index, window, .strobed⟩ b a) = true := hmoves
  refine ⟨hwindow, hseat'.trans hseat, hsize, hinput, fun _ => nofun, fun _ => nofun, ?_, ?_, fun _ => ?_,
    fun y hy hlt => ?_⟩
  · rw [hword]
    exact congrArg (· + 1) hmoved'
  · rw [hword]
    show b.moved + 1 < b.size ∨ b.moved + 1 = b.size ∧ true = true
    simp only [and_true]
    omega
  · exact Option.isSome_iff_exists.2 ⟨_, hcontext⟩
  · have hlt' : b.moved + 1 < b.size := hlt
    have hmore : x.moved + 1 ≠ x.count := by omega
    have hcount : x.countWord = { x with moved := x.moved + 1 } := if_neg hmore
    obtain rfl := Option.some.inj (hy.symm.trans (hcontext.trans (congrArg some hcount)))
    refine ⟨harmed, hdirection, ?_⟩
    show b.size - (b.moved + 1) ≤ x.count - (x.moved + 1)
    omega

end

end Sys2Proof.Machine
end

section
/-! SUPPORT. How the word cycles of an operation, and the start of an operation, keep the laws that tie the blocks together. -/

namespace Sys2Proof.Machine

section

variable {s t : State} {n : Slot} {o : Operation} {a : Answer}

/-! ## A reply taken -/

/-- A reply that moves a burst word, taken in phase 3 (R33, R34, R99, R100). -/
theorem State.lawBut.takeReply_moved {b : Burst} (h : s.lawBut noSlot noSlot) (ho : s.op = some o)
    (hk : o.kind = .burst b) (hp : o.phase = .strobed) (hmoves : a.moves b.direction = true) :
    (s.takeReply o a).lawBut noSlot noSlot := by
  obtain ⟨haccess, hclear, hhold⟩ := h.running ho
  obtain ⟨-, hlaw⟩ := h.operation o ho
  obtain ⟨honline, x, hx, harmed⟩ : (s.slot o.slot).seat = .online ∧
      ∃ x, (s.context o.slot).transfer = some x ∧ x.phase = .armed := by
    obtain ⟨kind, slot, index, window, phase⟩ := o
    cases hk
    cases hp
    obtain ⟨-, hseat, -, -, -, -, -, hshort, hopen, hctx⟩ := hlaw
    have hshort' : b.moved < b.size := hshort.resolve_right fun hr => Bool.false_ne_true hr.2
    obtain ⟨x, hx⟩ := Option.isSome_iff_exists.1 (hopen hshort')
    exact ⟨hseat, x, hx, (hctx x hx hshort').1⟩
  have hgone := h.endOperation (unjudged' := (· = o.slot)) ho (fun _ hu => hu.elim) fun _ => rfl
  obtain ⟨hseat, htimer, hident⟩ := (s.slot o.slot).countWord_same x
  have hends : s.endingBurst o.slot = true → (o.answered b a).ending := fun he => by
    obtain ⟨p, b', hp, hb, -, hboundary⟩ := (s.endingBurst_iff _).1 he
    obtain rfl := Option.some.inj (hp.symm.trans ho)
    obtain rfl := OperationKind.burst.inj (hk.symm.trans hb)
    exact ⟨_, rfl, hboundary⟩
  have hput := hgone.put (n := o.slot) (r := (s.slot o.slot).countWord x) (unjudged' := (· = o.slot))
    (c := { s.context o.slot with transfer := some x.countWord }) haccess ((h.slots o.slot).countWord x) (fun _ => .inl rfl)
    (fun y _ _ => ?armed) (fun hu => absurd rfl hu) (fun _ _ => id) nofun rfl fun _ => .inl ⟨rfl, x.countWord, rfl, ?ended⟩
  case armed =>
    rw [hseat, SlotRecord.transferCapable, hident]
    exact h.armed o.slot ((State.armed_iff s o.slot).2 ⟨x, hx, harmed⟩)
  case ended => rcases Transfer.countWord_phase harmed with hy | hy <;> simp [hy]
  have hslot := State.put_slot { s with op := none } o.slot o.slot ((s.slot o.slot).countWord x)
    { s.context o.slot with transfer := some x.countWord }
  have hcontext := State.put_context { s with op := none } o.slot o.slot ((s.slot o.slot).countWord x)
    { s.context o.slot with transfer := some x.countWord }
  rw [if_pos rfl] at hslot hcontext
  have hnew := hput.setOperation (o := o.answered b a) (unjudged' := noSlot) rfl haccess hclear hhold rfl
    (hlaw.moved hk hp hx hmoves (by rw [hslot, hseat]) (by rw [hcontext])) (fun hi => ?identifying) (fun _ hf he => ?fence)
    (fun m hm => hm) fun hm => ?aborting
  case identifying =>
    rw [hslot, hseat, honline] at hi
    exact absurd hi SeatState.online_ne_identifying
  case fence =>
    rw [hslot, hseat]
    show ((s.slot o.slot).countWord x).errorCount < s.control.threshold ∨ _
    unfold SlotRecord.countWord
    split
    · exact .inl h.fields.1
    · refine (h.fence o.slot id ?_ ?_).imp id fun ⟨hs, hb⟩ => ⟨hs, hends hb⟩ <;> simp [honline]
  case aborting =>
    rw [hcontext] at hm ⊢
    obtain ⟨-, ⟨⟨⟩, -⟩ | ⟨hb, -⟩⟩ := h.aborting o.slot hm
    exact ⟨hends hb, x.countWord, rfl, Transfer.countWord_phase harmed⟩
  refine hnew.of_parts ?_
  rw [State.takeReply_moved hk hmoves]
  have hparts := State.parts_moveWord hx harmed b.direction a.data
  show { (s.moveWord o.slot b.direction a.data).parts with op := some (o.answered b a) } = _
  rw [hparts]
  rfl

/-- Phase 4 keeps the laws (R25). -/
theorem State.lawBut.takeReply (h : s.lawBut noSlot noSlot) (ho : s.op = some o) (hp : o.phase = .strobed) (a : Answer) :
    (s.takeReply o a).lawBut noSlot noSlot := by
  by_cases hmoves : ∃ b, o.kind = .burst b ∧ a.moves b.direction = true
  · obtain ⟨b, hk, hb⟩ := hmoves
    exact h.takeReply_moved ho hk hp hb
  · have hkept : ∀ b, o.kind = .burst b → a.moves b.direction = false := fun b hb =>
      Bool.eq_false_iff.2 fun hm => hmoves ⟨b, hb, hm⟩
    rw [State.takeReply_of_kept s o a hkept]
    exact h.replace_same ho rfl ((h.operation o ho).2.answered hp hkept) (fun w hw => ⟨w, hw⟩) id

/-! ## The end of a word cycle -/

/-- The second word cycle of an IDENTIFY (R30). -/
theorem State.lawBut.beginIdentifyWord (h : s.lawBut noSlot noSlot) (ho : s.op = some o) (hk : o.kind = .identify none)
    (w : Word) : (s.beginWord { o with kind := .identify (some w), index := o.index + 1 }).lawBut noSlot noSlot := by
  have hlaw : s.operationLaw ⟨.identify (some w), o.slot, o.index + 1, s.timing.responseWindow, .begun⟩ := by
    obtain ⟨kind, slot, index, window, phase⟩ := o
    cases hk
    obtain ⟨-, hseat, hindex⟩ := (h.operation _ ho).2
    exact ⟨h.fields.2.2, hseat, congrArg (· + 1) hindex⟩
  exact h.replace_same ho rfl hlaw (fun _ _ => ⟨_, rfl⟩) fun ⟨b, hb, _⟩ => by simp [hk] at hb

/-- The next word cycle of a burst (R25, R33). -/
theorem State.lawBut.beginBurstWord {b : Burst} (h : s.lawBut noSlot noSlot) (ho : s.op = some o) (hk : o.kind = .burst b)
    (ha : o.phase.answer = some a) (hmoves : a.moves b.direction = true) (hshort : b.moved < b.size)
    (hboundary : b.boundary = false) : (s.beginWord { o with index := o.index + 1 }).lawBut noSlot noSlot := by
  refine h.replace_same ho rfl ?_ (fun w hw => ⟨w, ?_⟩) fun ⟨b', hb', hboundary'⟩ => ?_
  · obtain ⟨kind, slot, index, window, phase⟩ := o
    cases hk
    have ha' : phase.answer = some a := ha
    have hword : Operation.wordMoved ⟨.burst b, slot, index, window, phase⟩ = true := by
      simp [Operation.wordMoved, ha', hmoves]
    obtain ⟨-, hseat, hsize, -, -, -, hmoved, -, hopen, hctx⟩ := (h.operation _ ho).2
    rw [hword] at hmoved
    refine ⟨h.fields.2.2, hseat, hsize, fun hinput => ?_, fun _ => nofun, fun hb => ?_, hmoved, .inl hshort, hopen, hctx⟩
    · have hinput' : b.direction = .input := hinput
      simp [hinput']
    · exact absurd (hboundary.symm.trans hb) Bool.false_ne_true
  · simp [hk] at hw
  · obtain rfl := OperationKind.burst.inj (hk.symm.trans hb')
    exact absurd (hboundary.symm.trans hboundary') Bool.false_ne_true

theorem State.lawBut.afterWord {b : Burst} (h : s.lawBut noSlot noSlot) (ho : s.op = some o) (hk : o.kind = .burst b)
    (ha : o.phase.answer = some a) (hmoves : a.moves b.direction = true) : (s.afterWord o b).lawBut noSlot noSlot := by
  unfold State.afterWord
  split
  · exact h.endBurst ho hk rfl _ fun _ _ => id
  · next hsize =>
    split
    · exact h.endBurst ho hk rfl _ fun _ _ => id
    · next hboundary =>
      exact h.beginBurstWord ho hk ha hmoves (not_le.1 hsize) (Bool.eq_false_iff.2 hboundary)

/-- The end of a word cycle keeps the laws (R25, R27, R29). -/
theorem State.lawBut.endWord (h : s.lawBut noSlot noSlot) (ho : s.op = some o) (ha : o.phase.answer = some a) :
    (s.endWord o a).lawBut noSlot noSlot := by
  unfold State.endWord
  split
  · next first hk =>
    have hend := fun outcome => h.endIdentify ho hk outcome
    unfold State.endIdentifyWord
    split
    · split
      · split
        · exact h.beginIdentifyWord ho hk a.data
        · exact hend _
      · exact hend _
    · exact hend _
    · exact hend _
  · next hk =>
    have hend := fun outcome => h.endAcknowledge ho hk outcome
    unfold State.endAcknowledgeWord
    split
    · split <;> exact hend _
    · exact hend _
    · exact hend _
  · next b hk =>
    have hend := fun cause => h.endBurst (unjudged' := noSlot) ho hk rfl cause fun _ _ => id
    unfold State.endBurstWord
    split
    · split
      · next hmoves => exact h.afterWord ho hk ha hmoves
      · exact hend _
    · exact hend _
    · exact hend _

theorem State.lawBut.finishWord (h : s.lawBut noSlot noSlot) : s.finishWord.lawBut noSlot noSlot := by
  unfold State.finishWord
  split
  · next o ho =>
    split
    · next a ha => exact h.endWord ho ha
    · exact h
  · exact h

/-- The response window running out keeps the laws (R26, R27). -/
theorem State.lawBut.timeout (h : s.lawBut noSlot noSlot) (ho : s.op = some o) : (s.timeout o).lawBut noSlot noSlot := by
  unfold State.timeout
  split
  · next hk => exact h.endIdentify ho hk _
  · next hk => exact h.endAcknowledge ho hk _
  · next hk => exact h.endBurst ho hk rfl _ fun _ _ => id

/-! ## The start of an operation -/

/-- An operation starts on a bus that the arbiter may use, its slot's record changed to meet it. -/
theorem State.lawBut.startOperation (h : s.lawBut (· = n) noSlot) (hmay : s.mayChoose = true) (kind : OperationKind)
    (hlaw : s.operationLaw ⟨s.drive n kind, n, 0, s.timing.responseWindow, .begun⟩)
    (hident : (s.slot n).seat = .identifying → ∃ w, kind = .identify w)
    (habort : (s.context n).abortPending = false) : (s.startOperation kind n).lawBut noSlot noSlot := by
  obtain ⟨haccess, ⟨hop, hclear⟩, hrun⟩ := (State.mayChoose_iff s).1 hmay
  refine State.lawBut.setOperation h hop haccess hclear (by simp [hrun]) rfl hlaw (fun hi => ?_) (fun _ hf he => ?_)
    (fun _ _ => id) fun hm => ?_
  · obtain ⟨w, rfl⟩ := hident hi
    exact ⟨w, rfl⟩
  · refine .inl ((h.fence n id hf he).resolve_right fun hb => ?_)
    simp [State.endingBurst_of_none hop] at hb
  · exact absurd (habort.symm.trans hm) Bool.false_ne_true

/-- A slot chosen for IDENTIFY (R7). -/
theorem State.lawBut.startIdentify (h : s.lawBut noSlot noSlot) (hmay : s.mayChoose = true)
    (hseat : (s.slot n).seat = .identifyWait) : (s.start (.identify n)).lawBut noSlot noSlot := by
  obtain ⟨haccess, ⟨hop, hclear⟩, hrun⟩ := (State.mayChoose_iff s).1 hmay
  have habort := h.abortPending_eq_false (n := n) id (State.noBurst_of_none hop)
  have hopen : s.lawBut (· = n) noSlot := h.weaken (by simp [hop]) fun _ => id
  obtain ⟨h1, h2, -, h4, -, h6⟩ := h.slots n
  have hput := hopen.put (n := n) (r := { s.slot n with seat := .identifying }) (c := s.context n) (unjudged' := noSlot)
    haccess ⟨by simpa [hseat] using h1, h2, by simp, h4, by simp, fun _ => h6 (by simp [hseat])⟩ (fun _ => .inl rfl)
    (fun x hx hp => ?armed) (fun _ _ _ => .inl ?fence) (fun _ _ => id) (by simp [hop]) rfl fun hm => ?abort
  case armed =>
    have honline := (h.armed n ((State.armed_iff s n).2 ⟨x, hx, hp⟩)).1
    simp [hseat] at honline
  case fence => exact h.count_lt (n := n) (by simp [hseat]) (by simp [hseat]) (by simp [hseat])
  case abort => exact absurd (habort.symm.trans hm) Bool.false_ne_true
  have hlaw := hput.of_parts (s.parts_setSlot n { s.slot n with seat := .identifying })
  have hslot := (s.slot_setSlot n n { s.slot n with seat := .identifying }).trans (if_pos rfl)
  exact hlaw.startOperation (by exact hmay) (.identify none)
    ⟨h.fields.2.2, by exact congrArg SlotRecord.seat hslot, rfl⟩ (fun _ => ⟨none, rfl⟩) habort

/-- A slot chosen for ACKNOWLEDGE (R24, R31). -/
theorem State.lawBut.startAcknowledge (h : s.lawBut noSlot noSlot) (hmay : s.mayChoose = true)
    (hseat : (s.slot n).seat = .online) : (s.start (.acknowledge n)).lawBut noSlot noSlot := by
  obtain ⟨-, ⟨hop, -⟩, -⟩ := (State.mayChoose_iff s).1 hmay
  have hopen : s.lawBut (· = n) noSlot := h.weaken (by simp [hop]) fun _ => id
  obtain ⟨-, -, hident, -, -, -⟩ := h.slots n
  exact hopen.startOperation hmay .acknowledge ⟨h.fields.2.2, .inl hseat, hident (.inl hseat), rfl⟩ (by simp [hseat])
    (h.abortPending_eq_false id (State.noBurst_of_none hop))

/-- The burst limit of a valid ident (R9). -/
theorem Ident.burstLimit_of_valid {i : Ident} (h : i.failedCheck = none) :
    1 ≤ i.burstLimit.toNat ∧ i.burstLimit.toNat ≤ 32 := by
  unfold Ident.failedCheck at h
  split at h
  · cases h
  · split at h
    · cases h
    · next hlimit =>
      obtain ⟨hzero, hmost⟩ := not_or.1 hlimit
      have : i.burstLimit.toNat ≠ 0 := fun hz => hzero (BitVec.eq_of_toNat_eq hz)
      omega

/-- The size of a burst of an ONLINE slot whose ARMED context has words remaining (R32). -/
theorem State.burstSize_range {x : Transfer} (hlaw : (s.slot n).law) (hseat : (s.slot n).seat = .online)
    (hmoved : x.moved < x.count) :
    1 ≤ s.burstSize n x ∧ s.burstSize n x ≤ 32 ∧ s.burstSize n x ≤ x.count - x.moved := by
  obtain ⟨-, -, hident, hvalid, -, -⟩ := hlaw
  obtain ⟨i, hi⟩ := Option.isSome_iff_exists.1 (hident (.inl hseat))
  obtain ⟨hlow, hhigh⟩ := Ident.burstLimit_of_valid (hvalid i hi)
  have hsize : s.burstSize n x = min i.burstLimit.toNat (x.count - x.moved) := by simp [State.burstSize, hi]
  omega

/-- A slot chosen for a burst (R24, R32, R97). -/
theorem State.lawBut.startBurst (h : s.lawBut noSlot noSlot) (hreport : s.reportLaw) (hmay : s.mayChoose = true)
    (hseat : (s.slot n).seat = .online) (harmed : s.armed n = true) : (s.start (.burst n)).lawBut noSlot noSlot := by
  obtain ⟨-, ⟨hop, -⟩, -⟩ := (State.mayChoose_iff s).1 hmay
  have hopen : s.lawBut (· = n) noSlot := h.weaken (by simp [hop]) fun _ => id
  obtain ⟨x, hx, hphase⟩ := (State.armed_iff s n).1 harmed
  obtain ⟨hlow, hhigh, hleft⟩ := State.burstSize_range (h.slots n) hseat
    (Transfer.moved_lt_of_armed (State.countLaw_of_context hreport hx) hphase)
  have hstart : s.start (.burst n) = s.startOperation (.burst
      { direction := x.direction, size := s.burstSize n x, moved := 0, boundary := false, driven := none }) n := by
    simp [State.start, hx]
  rw [hstart]
  refine hopen.startOperation hmay _ ⟨h.fields.2.2, hseat, hhigh, fun hinput => ?_, fun _ => nofun, nofun, rfl, .inl hlow,
    fun _ => Option.isSome_iff_exists.2 ⟨x, hx⟩, fun y hy _ => ?_⟩ (by simp [hseat])
    (h.abortPending_eq_false id (State.noBurst_of_none hop))
  · have hinput' : x.direction = .input := hinput
    simp [hinput']
  · obtain rfl := Option.some.inj (hx.symm.trans hy)
    exact ⟨hphase, rfl, hleft⟩

end

end Sys2Proof.Machine
end

section
/-! SUPPORT. How the arbiter's choice, a threshold write and an ABORT keep the laws that tie the blocks together. -/

namespace Sys2Proof.Machine

section

variable {s t : State} {unjudged unjudged' : Slot → Prop} {n : Slot} {o : Operation} {b : Burst}

/-! ## The choice -/

/-- The claim that a choice serves (R45 to R47, R51). -/
def State.serves (s : State) : Choice → Bool
  | .identify n => s.identifyCandidate n
  | .acknowledge n => s.attentionEligible n
  | .burst n => s.transferEligible n

/-- A choice serves a claim that its slot holds (R48, R51). -/
theorem State.serves_of_choice {c : Choice} (h : s.choice = some c) : s.serves c = true := by
  have hfound : ∀ {start : Position} {claim : Slot → Bool} {n : Slot}, s.scan start claim = some n → claim n = true :=
    List.find?_some
  unfold State.choice at h
  split at h
  · next n hn =>
    cases h
    exact hfound hn
  · split at h
    · next a t ha ht =>
      split at h
      · cases h
        exact hfound ha
      · cases h
        exact hfound ht
    · next a ha _ =>
      cases h
      exact hfound ha
    · next t _ ht =>
      cases h
      exact hfound ht
    · cases h

/-- Taking a choice keeps the laws (R51, R52). -/
theorem State.lawBut.start {c : Choice} (h : s.lawBut noSlot noSlot) (hreport : s.reportLaw) (hmay : s.mayChoose = true)
    (hserves : s.serves c = true) : (s.start c).lawBut noSlot noSlot := by
  cases c with
  | identify n => exact h.startIdentify hmay (of_decide_eq_true hserves)
  | acknowledge n =>
    obtain ⟨honline, -⟩ := (s.attentionEligible_iff n).1 hserves
    exact h.startAcknowledge hmay honline
  | burst n =>
    obtain ⟨honline, -, -, -, harmed⟩ := (s.transferEligible_iff n).1 hserves
    exact h.startBurst hreport hmay honline harmed

theorem State.lawBut.choose (h : s.lawBut noSlot noSlot) (hreport : s.reportLaw) : s.choose.lawBut noSlot noSlot := by
  unfold State.choose
  split
  · next hmay =>
    split
    · next c hc => exact h.start hreport hmay (State.serves_of_choice hc)
    · exact h
  · exact h

/-- The choice that an event calls for keeps the laws (R53). -/
theorem State.lawBut.react (before : State) (h : t.lawBut noSlot noSlot) (hreport : t.reportLaw) :
    (react before t).lawBut noSlot noSlot := by
  unfold Machine.react
  split
  · exact h.choose hreport
  · exact h

/-! ## A burst asked to end -/

/-- The end of a burst asked for from phase 3 of its word cycle on (R36). -/
theorem State.operationLaw.ending (h : s.operationLaw o) (hk : o.kind = .burst b) (hp : o.phase ≠ .begun) :
    s.operationLaw { o with kind := .burst { b with boundary := true } } := by
  obtain ⟨kind, slot, index, window, phase⟩ := o
  cases hk
  have hword : Operation.wordMoved ⟨.burst b, slot, index, window, phase⟩ =
      Operation.wordMoved ⟨.burst { b with boundary := true }, slot, index, window, phase⟩ := by
    cases phase <;> rfl
  obtain ⟨hwindow, hseat, hsize, hinput, hreleased, -, hmoved, hshort, hrest⟩ := h
  rw [hword] at hmoved hshort
  exact ⟨hwindow, hseat, hsize, hinput, hreleased, fun _ => hp, hmoved, hshort, hrest⟩

/-- A burst whose end has been asked for has its strobe driven (R36). -/
theorem State.operationLaw.boundary_eq_false (h : s.operationLaw o) (hk : o.kind = .burst b) (hp : o.phase = .begun) :
    b.boundary = false := by
  obtain ⟨kind, slot, index, window, phase⟩ := o
  cases hk
  cases hp
  obtain ⟨-, -, -, -, -, hboundary, -⟩ := h
  exact Bool.eq_false_iff.2 fun hb => hboundary hb rfl

/-- Asking for the end of a slot's burst leaves its slot judged, or its burst about to be (R36, R121). -/
theorem State.lawBut.requestBoundary (h : s.lawBut noSlot unjudged) (ho : s.op = some o) (hk : o.kind = .burst b)
    (hslot : o.slot = n) (hmore : ∀ m, m ≠ n → unjudged m → unjudged' m) :
    (s.requestBoundary n).lawBut noSlot unjudged' := by
  obtain ⟨-, hlaw⟩ := h.operation o ho
  cases hslot
  by_cases hp : o.phase = .begun
  · rw [State.requestBoundary_of_begun ho hk rfl hp (hlaw.boundary_eq_false hk hp)]
    exact h.endBurst ho hk (by rfl) _ hmore
  · rw [State.requestBoundary_of_strobed ho hk rfl hp]
    exact h.replaceOperation ho rfl (hlaw.ending hk hp) (fun w hw => by simp [hk] at hw) (fun _ => ⟨_, rfl, rfl⟩) hmore
      fun _ _ => ⟨_, rfl, rfl⟩

/-! ## A threshold write -/

theorem State.keeps_applyThreshold (s : State) (n : Slot) : s.keeps (s.applyThreshold n) := by
  unfold State.applyThreshold
  split
  · split
    · exact s.keeps_requestBoundary n
    · exact s.keeps_judge n none
  · exact s.keeps_refl

theorem State.keeps.takesAccess (h : s.keeps t) (haccess : s.takesAccess) : t.takesAccess := by
  unfold State.takesAccess
  rw [h.lines, h.starting]
  exact haccess

/-- A threshold write at one slot leaves it judged (R121). -/
theorem State.lawBut.applyThreshold (h : s.lawBut noSlot unjudged) (haccess : s.takesAccess)
    (hmore : ∀ m, m ≠ n → unjudged m → unjudged' m) : (s.applyThreshold n).lawBut noSlot unjudged' := by
  cases hreached : s.reached n with
  | true =>
    rw [State.applyThreshold_of_reached hreached]
    split
    · next hburst =>
      obtain ⟨o, b, ho, hk, hslot⟩ := (s.burstInFlight_iff n).1 hburst
      exact h.requestBoundary ho hk hslot hmore
    · next hburst =>
      exact h.judge haccess (fun o b ho hk hslot => hburst ((s.burstInFlight_iff n).2 ⟨o, b, ho, hk, hslot⟩)) none hmore
  | false =>
    rw [State.applyThreshold_of_below hreached]
    refine h.with_fence fun m hm hf he => ?_
    by_cases hmn : m = n
    · subst hmn
      by_cases honline : (s.slot m).seat = .online
      · refine .inl (not_le.1 fun hle => ?_)
        simp [State.reached, SlotRecord.fencedAt, honline, hle] at hreached
      · exact .inl (h.count_lt honline hf he)
    · exact h.fence m (fun hu => hm (hmore m hmn hu)) hf he

/-- A threshold write at slots, none of which has been judged, judges them (R121). -/
theorem State.lawBut.foldl_applyThreshold (l : List Slot) (h : s.lawBut noSlot (· ∈ l)) (haccess : s.takesAccess) :
    (l.foldl State.applyThreshold s).lawBut noSlot noSlot := by
  induction l generalizing s with
  | nil => exact h.with_fence fun m _ => h.fence m List.not_mem_nil
  | cons n l ih =>
    exact ih (h.applyThreshold haccess fun m hm hu => (List.mem_cons.1 hu).resolve_left hm)
      ((s.keeps_applyThreshold n).takesAccess haccess)

/-- A CONTROL write keeps the laws (R121, R144). -/
theorem State.lawBut.writeControl (h : s.lawBut noSlot noSlot) (hreport : s.reportLaw) (w : Word) :
    (s.writeControl w).lawBut noSlot noSlot := by
  unfold State.writeControl
  split
  · next hready =>
    have haccess : s.takesAccess := by
      by_contra hnot
      simp [State.ready_of_not_takesAccess hnot] at hready
    obtain ⟨⟨hthreshold, -⟩, -⟩ := controlOfWord_range w
    have hset : State.lawBut { s with control := controlOfWord w } noSlot (· ∈ allSlots) :=
      ⟨h.reset, h.quiet, h.still, h.operation, h.identifying, h.armed, h.slots, fun m hm => absurd (mem_allSlots m) hm,
        ⟨hthreshold, h.fields.2⟩, h.executing, h.holding, h.aborting, h.clearing⟩
    exact State.lawBut.react s (hset.foldl_applyThreshold allSlots haccess)
      (State.reportLaw_applyThresholds (by exact hreport))
  · exact h

/-! ## ABORT -/

/-- What the law of an operation says of its context is of the open transfer. -/
theorem State.operationLaw_of_transfer (h : s.operationLaw o) (hslot : t.slot o.slot = s.slot o.slot)
    (htransfer : (t.context o.slot).transfer = (s.context o.slot).transfer) : t.operationLaw o := by
  unfold State.operationLaw at h ⊢
  rw [hslot, htransfer]
  exact h

theorem State.abortWaits_context_eq (s : State) (n m : Slot) : (s.abortWaits n).context m =
    if n = m then { s.context n with abortPending := true } else s.context m := s.execute.context_setContext n m _

theorem State.abortWaits_transfer (s : State) (n m : Slot) :
    ((s.abortWaits n).context m).transfer = (s.context m).transfer := by
  rw [State.abortWaits_context_eq]
  split
  · next hm => rw [← hm]
  · rfl

/-- An ABORT that waits, at a slot whose operation has ended or is set aside (R107). -/
theorem State.lawBut.abortWaits (h : s.lawBut (· = n) unjudged) (hidle : s.cmd.executing = none)
    (hcode : s.cmd.code = Command.abort.code) {x : Transfer} (hx : (s.context n).transfer = some x)
    (hphase : x.phase = .armed) : (s.abortWaits n).lawBut (· = n) unjudged := by
  obtain ⟨hhold, hnone⟩ := h.idle hidle
  have hcontext := s.abortWaits_context_eq n
  have htransfer := s.abortWaits_transfer n
  refine ⟨h.reset, fun hq => ?_, h.still, fun o ho => ⟨(h.operation o ho).1,
      State.operationLaw_of_transfer (h.operation o ho).2 rfl (htransfer _)⟩, h.identifying, fun m hm => h.armed m ?_,
    h.slots, h.fence, h.fields, ?_, fun hh => absurd hh hhold, fun m hm => ⟨congrArg some hcode, ?_⟩,
    fun hc ha => absurd (h.clearing hc ha) (by simp [hidle])⟩
  · obtain ⟨-, -, -, hclosed⟩ := h.quiet hq
    simp [(hclosed n).2] at hx
  · unfold State.armed at hm ⊢
    rw [htransfer] at hm
    exact hm
  · rintro r ⟨⟩
    exact .inr (.inr ⟨hcode, n, by rw [hcontext, if_pos rfl]⟩)
  · rw [hcontext] at hm
    split at hm
    · next hn =>
      refine .inl ⟨hn.symm, x, ?_, by simp [hphase]⟩
      rw [htransfer, ← hn]
      exact hx
    · exact absurd ((hnone m).symm.trans hm) Bool.false_ne_true

/-- ABORT of an ARMED context with a burst of its slot in flight: it waits for the burst's end (R36, R107). -/
theorem State.lawBut.abortBurst (h : s.lawBut noSlot noSlot) (hidle : s.cmd.executing = none)
    (hcode : s.cmd.code = Command.abort.code) {x : Transfer} (hx : (s.context n).transfer = some x)
    (harmed : x.phase = .armed) (ho : s.op = some o) (hk : o.kind = .burst b) (hslot : o.slot = n) :
    ((s.abortWaits n).requestBoundary n).lawBut noSlot noSlot := by
  obtain ⟨haccess, hclear, hhold⟩ := h.running ho
  obtain ⟨-, hlaw⟩ := h.operation o ho
  cases hslot
  have honline : (s.slot o.slot).seat = .online := (h.armed o.slot ((State.armed_iff s _).2 ⟨x, hx, harmed⟩)).1
  have hgone := h.endOperation (unjudged' := (· = o.slot)) ho (fun _ hu => hu.elim) fun _ => rfl
  have hwaits := hgone.abortWaits hidle hcode hx harmed
  have ho' : (s.abortWaits o.slot).op = some o := ho
  by_cases hp : o.phase = .begun
  · rw [State.requestBoundary_of_begun ho' hk rfl hp (hlaw.boundary_eq_false hk hp)]
    exact State.lawBut.endBurst_of_gone (unjudged' := noSlot) hwaits haccess rfl honline rfl (fun m hm hu => hm hu) .boundary
      (.burst { b with boundary := true })
  · rw [State.requestBoundary_of_strobed ho' hk rfl hp]
    have htransfer := State.abortWaits_transfer { s with op := none } o.slot o.slot
    refine hwaits.setOperation (o := { o with kind := .burst { b with boundary := true } }) rfl haccess hclear hhold rfl
      (State.operationLaw_of_transfer (hlaw.ending hk hp) rfl htransfer)
      (fun hi => absurd (honline.symm.trans hi) SeatState.online_ne_identifying)
      (fun _ _ _ => .inr ⟨honline, _, rfl, rfl⟩) (fun m hm hu => hm hu)
      fun _ => ⟨⟨_, rfl, rfl⟩, x, htransfer.trans hx, .inl harmed⟩

end

end Sys2Proof.Machine
end

section
/-! SUPPORT. How seating, removal and the passing of time keep the laws that tie the blocks together. -/

namespace Sys2Proof.Machine

section

variable {s t : State} {ended unjudged : Slot → Prop} {n : Slot} {o : Operation}

/-! ## Slots that are not served -/

/-- Of a slot that is not ONLINE the context is not ARMED (R97). -/
theorem State.lawBut.not_armed (h : s.lawBut ended unjudged) (hseat : (s.slot n).seat ≠ .online) {x : Transfer}
    (hx : (s.context n).transfer = some x) : x.phase ≠ .armed := fun hp =>
  hseat (h.armed n ((State.armed_iff s n).2 ⟨x, hx, hp⟩)).1

/-- The part takes accesses once a slot is not EMPTY (R2, R141). -/
theorem State.lawBut.takesAccess (h : s.lawBut ended unjudged) (hseat : (s.slot n).seat ≠ .empty) : s.takesAccess := by
  by_contra hnot
  have hquiet : s.lines.rstin = true ∨ s.starting = true := by
    by_contra hq
    exact hnot (by simpa using hq)
  obtain ⟨-, -, -, hempty⟩ := h.quiet hquiet
  exact hseat (hempty n).1

/-- The record of a slot that is not ONLINE gives way to one that is not IDENTIFYING either (R3, R5, R6, R18, R125). -/
theorem State.lawBut.put_unserved {r : SlotRecord} (h : s.lawBut noSlot noSlot) (haccess : s.takesAccess)
    (hseat : (s.slot n).seat ≠ .online) (hlaw : r.law) (hident : r.seat ≠ .identifying)
    (hcount : r.seat ≠ .empty → r.errorCount = 0) (hop : ∀ o, s.op = some o → o.slot = n → (s.setSlot n r).operationLaw o) :
    (s.setSlot n r).lawBut noSlot noSlot := by
  have habort := h.abortPending_eq_false (n := n) id (h.noBurst hseat)
  refine State.lawBut.of_parts (h.put haccess hlaw (fun hi => absurd hi hident)
    (fun x hx hp => absurd hp (h.not_armed hseat hx)) (fun _ _ he => .inl ?_) (fun _ _ => id) (fun o ho hn => ?_) rfl
    fun hp => ?_) (s.parts_setSlot n r)
  · rw [hcount he]
    exact h.fields.1
  · refine State.operationLaw_congr (hop o ho hn) rfl ((s.put_context n _ r (s.context n)).trans ?_)
    rw [if_pos hn.symm, hn]
    rfl
  · exact absurd (habort.symm.trans hp) Bool.false_ne_true

/-- No operation is in flight of a slot in a state that serves none (R7, R23). -/
theorem State.lawBut.no_operation (h : s.lawBut ended unjudged)
    (hseat : (s.slot n).seat = .empty ∨ (s.slot n).seat = .settling ∨ (s.slot n).seat = .failed) :
    ∀ o, s.op = some o → o.slot ≠ n := by
  rintro o ho rfl
  rcases hseat with hs | hs | hs <;>
    rcases (h.operation o ho).2.seat with hs' | hs' | hs' | hs' <;> exact absurd (hs.symm.trans hs') (by decide)

/-- The record that a slot enters SETTLING with (R3, R4). -/
def SlotRecord.settled (r : SlotRecord) (t : Timing) : SlotRecord :=
  { r with seat := .settling, timer := some (t.settleTime * Config.microsPerMilli), errorCount := 0, lastError := none }

theorem SlotRecord.law.settled {r : SlotRecord} (h : r.law) (hseat : r.seat = .empty) {t : Timing} (ht : 1 ≤ t.settleTime) :
    (r.settled t).law := by
  obtain ⟨-, -, -, h4, h5, -⟩ := h
  refine ⟨by simp [SlotRecord.settled], ?_, by simp [SlotRecord.settled], h4, fun _ => h5 (.inl hseat), fun _ => rfl⟩
  rintro _ ⟨⟩
  exact Nat.mul_pos ht (by decide)

/-- A SEAT line that becomes active keeps the laws (R2, R3). -/
theorem State.lawBut.seatActive (h : s.lawBut noSlot noSlot) (n : Slot) : (s.seatActive n).lawBut noSlot noSlot := by
  have hline : State.lawBut { s with lines := { s.lines with seat := s.lines.seat.set n true } } noSlot noSlot := h.of_parts rfl
  simp only [State.seatActive]
  split
  · next hempty =>
    obtain ⟨hready, hempty⟩ := hempty
    have haccess : s.takesAccess := by
      by_contra hnot
      simp [State.ready_of_not_takesAccess hnot] at hready
    exact State.lawBut.put_unserved (r := (s.slot n).settled s.timing) hline haccess
      (fun ho => absurd (hempty.symm.trans ho) (by decide)) ((h.slots n).settled hempty h.fields.2.1) nofun (fun _ => rfl)
      fun o ho hn => absurd hn (h.no_operation (.inl hempty) o ho)
  · exact hline

/-! ## Removal -/

/-- The cut of a removal: no operation is left in flight of the slot, and nothing is left open but it (R13, R38). -/
theorem State.lawBut.cutSlot (h : s.lawBut noSlot noSlot) (n : Slot) :
    (s.cutSlot n).lawBut (· = n) (· = n) ∧ (∀ o, (s.cutSlot n).op = some o → o.slot ≠ n) ∧
      (((s.cutSlot n).context n).abortPending = true → (s.cutSlot n).op = none) ∧
      ((s.cutSlot n).arb.hold = .holding → (s.cutSlot n).op.isSome = true) := by
  have huncut : ∀ u : State, u.lawBut noSlot noSlot → (∀ o, u.op = some o → o.slot ≠ n) →
      u.lawBut (· = n) (· = n) ∧ (∀ o, u.op = some o → o.slot ≠ n) ∧
        ((u.context n).abortPending = true → u.op = none) ∧ (u.arb.hold = .holding → u.op.isSome = true) := by
    intro u hu hother
    refine ⟨hu.weaken (fun o ho hn => hother o ho hn) fun _ hm => hm.elim, hother, fun hp => ?_,
      fun hh => (hu.holding hh).1.resolve_right nofun⟩
    have hnone := hu.abortPending_eq_false (n := n) id fun o b ho _ => hother o ho
    exact absurd (hnone.symm.trans hp) Bool.false_ne_true
  unfold State.cutSlot
  split
  · next o ho =>
    split
    · next hslot =>
      have hfinish := h.finishWord
      unfold State.cut
      split
      · next o' ho' =>
        obtain rfl : o'.slot = n := (State.finishWord_slot ho ho').trans hslot
        have hgone := hfinish.endOperation (unjudged' := (· = o'.slot)) ho' (fun _ hm => hm.elim) fun _ => rfl
        obtain ⟨hlaw, hhold⟩ := hgone.operationEnd rfl o'.kind o'.slot
        rw [State.operationEnd_frame] at hlaw hhold ⊢
        exact ⟨hlaw, nofun, fun _ => rfl, fun hh => absurd hh hhold⟩
      · next hnone => exact huncut _ hfinish (by simp [hnone])
    · next hslot =>
      exact huncut s h fun p hp => by
        obtain rfl := Option.some.inj (hp.symm.trans ho)
        exact hslot
  · next hnone => exact huncut s h (by simp [hnone])

/-- The record of a slot whose card is removed (R12). -/
def SlotRecord.removed (r : SlotRecord) : SlotRecord := { r with seat := .empty, timer := none, ident := none }

theorem SlotRecord.law_removed (r : SlotRecord) : r.removed.law :=
  ⟨by simp [SlotRecord.removed], nofun, by simp [SlotRecord.removed], nofun, fun _ => rfl, by simp [SlotRecord.removed]⟩

/-- What the hand-offs before a waiting ABORT leave of the parts that the laws look at (R12, R72, R103). -/
theorem State.parts_removed (s : State) (n : Slot) :
    ((((s.setSlot n (s.slot n).removed).purge n).reportSeat n .unseated).halt n .unseated).parts =
      (s.put n (s.slot n).removed ((s.context n).halted .unseated)).parts := by
  rw [State.halt_eq]
  rfl

/-- A removal keeps the laws (R12, R13). -/
theorem State.lawBut.remove (h : s.lawBut noSlot noSlot) (haccess : s.takesAccess) (n : Slot) :
    (s.remove n).lawBut noSlot noSlot := by
  obtain ⟨hlaw, hother, hpending, hhold⟩ := h.cutSlot n
  have haccess' : (s.cutSlot n).takesAccess := (s.keeps_cutSlot n).takesAccess haccess
  have hremove : s.remove n = State.settleAbort
      (((((s.cutSlot n).setSlot n ((s.cutSlot n).slot n).removed).purge n).reportSeat n .unseated).halt n .unseated) n := rfl
  rw [hremove]
  generalize s.cutSlot n = u at hlaw hother hpending hhold haccess'
  have hput := hlaw.put_halted (n := n) (r := (u.slot n).removed) (unjudged' := noSlot) haccess'
    (fun o b ho _ => hother o ho) .unseated (u.slot n).law_removed nofun (fun _ _ he => absurd rfl he) (fun m hm hu => hm hu)
    fun o ho hn => absurd hn (hother o ho)
  have hparts := u.parts_removed n
  generalize (((u.setSlot n (u.slot n).removed).purge n).reportSeat n .unseated).halt n .unseated = v at hparts
  have hcontexts : v.contexts = u.contexts.set n ((u.context n).halted .unseated) := congrArg Parts.contexts hparts
  have hslots : v.slots = u.slots.set n (u.slot n).removed := congrArg Parts.slots hparts
  have hop : v.op = u.op := congrArg Parts.op hparts
  have hvhold : v.arb.hold = u.arb.hold := congrArg Parts.hold hparts
  have hcontext : (v.context n).abortPending = (u.context n).abortPending := by
    rw [State.context, hcontexts, vector_get_set, if_pos rfl]
    rfl
  have hvaccess : v.takesAccess :=
    ⟨(congrArg Parts.rstin hparts).trans haccess'.1, (congrArg Parts.starting hparts).trans haccess'.2⟩
  obtain ⟨hsettled, habort⟩ := (hput.of_parts hparts).settleAbort hvaccess fun hp =>
    hop.trans (hpending (hcontext.symm.trans hp))
  refine hsettled.settled ?_ habort ?_
  · rw [State.settleAbort_frame]
    show v.slots[n].seat ≠ .identifying
    rw [hslots, vector_get_set, if_pos rfl]
    nofun
  · rw [State.settleAbort_frame]
    show v.arb.hold = .holding → v.op.isSome = true
    rw [hvhold, hop]
    exact hhold

end

end Sys2Proof.Machine
end

section
/-! SUPPORT. How the SEAT lines, the settle timers, the resets and the replies keep the laws that tie the blocks together. -/

namespace Sys2Proof.Machine

section

variable {s t : State} {n : Slot} {o : Operation}

/-- The reports' law is of the state that the arbiter chose in (R53). -/
theorem reportLaw_of_react {before : State} (h : (react before t).reportLaw) : t.reportLaw := by
  rw [react_frame] at h
  exact h

/-- The part takes accesses where the window is ready (R141). -/
theorem State.takesAccess_of_ready (h : s.ready = true) : s.takesAccess := by
  by_contra hnot
  simp [State.ready_of_not_takesAccess hnot] at h

/-! ## SEAT lines -/

/-- A settle timer that is stopped leaves its slot for EMPTY or IDENTIFY_WAIT (R5, R6). -/
theorem State.lawBut.leaveSettling {x : SeatState} (h : s.lawBut noSlot noSlot) (hseat : (s.slot n).seat = .settling)
    (hx : x = .empty ∨ x = .identifyWait) : (s.setSlot n { s.slot n with seat := x, timer := none }).lawBut noSlot noSlot := by
  obtain ⟨-, -, -, -, h5, h6⟩ := h.slots n
  have hident := h5 (.inr (.inl hseat))
  have hcount := h6 (.inl hseat)
  refine h.put_unserved (h.takesAccess (n := n) (by simp [hseat])) (by simp [hseat])
    ⟨?_, nofun, ?_, ?_, fun _ => hident, fun _ => hcount⟩ ?_ (fun _ => hcount) fun o ho hn => absurd hn (h.no_operation (.inr (.inl hseat)) o ho)
  · rcases hx with rfl | rfl <;> simp
  · rcases hx with rfl | rfl <;> simp
  · simp [hident]
  · rcases hx with rfl | rfl <;> simp

/-- A SEAT line that becomes inactive keeps the laws (R5, R12, R15). -/
theorem State.lawBut.seatInactive (h : s.lawBut noSlot noSlot) (hreport : s.reportLaw) (n : Slot) :
    (s.seatInactive n).lawBut noSlot noSlot := by
  have hline : State.lawBut { s with lines := s.lines.unseat n } noSlot noSlot := h.of_parts rfl
  simp only [State.seatInactive]
  split
  · next hready =>
    have haccess := State.takesAccess_of_ready hready
    have hremoved : (Machine.react s ({ s with lines := s.lines.unseat n }.remove n)).lawBut noSlot noSlot :=
      (hline.remove haccess n).react s (State.reportLaw_remove (by exact hreport) n)
    split
    · exact hline
    · next hseat => exact hline.leaveSettling hseat (.inl rfl)
    · exact hremoved
    · exact hremoved
    · exact hremoved
    · exact hremoved
    · exact hremoved
  · exact hline

/-! ## Time -/

theorem SlotRecord.law.elapse {r : SlotRecord} (h : r.law) (k : Nat) : (r.elapse k).law := by
  obtain ⟨h1, -, h3, h4, h5, h6⟩ := h
  refine ⟨by simpa using h1, fun t ht => ?_, h3, h4, h5, h6⟩
  obtain ⟨u, -, rfl⟩ := Option.map_eq_some_iff.1 ht
  exact le_max_left 1 _

/-- Time that passes keeps the laws (R4). -/
theorem State.lawBut.elapse (h : s.lawBut noSlot noSlot) (k : Nat) : (s.elapse k).lawBut noSlot noSlot := by
  have hslot := s.elapse_slot k
  refine ⟨h.reset, fun hq => ?_, h.still, fun o ho => ⟨id, ?_⟩, fun m hm => ?_, fun m hm => ?_, fun m => ?_, fun m hm => ?_,
    h.fields, h.executing, h.holding, h.aborting, h.clearing⟩
  · obtain ⟨hop, hidle, hrun, hempty⟩ := h.quiet hq
    refine ⟨hop, hidle, hrun, fun m => ⟨?_, (hempty m).2⟩⟩
    rw [hslot]
    exact (hempty m).1
  · refine State.operationLaw_of_seat (h.operation o ho).2 ?_ ?_ rfl
    · rw [hslot]
      rfl
    · rw [hslot]
      rfl
  · rw [hslot]
    exact h.identifying m hm
  · rw [hslot]
    exact h.armed m hm
  · rw [hslot]
    exact (h.slots m).elapse k
  · rw [hslot]
    exact h.fence m hm

/-- A settle timer that expires keeps the laws (R6). -/
theorem State.lawBut.expire (h : s.lawBut noSlot noSlot) (hreport : s.reportLaw) (hseat : (s.slot n).seat = .settling) :
    (s.expire n).lawBut noSlot noSlot :=
  (h.leaveSettling hseat (.inr rfl)).react s (by exact hreport)

theorem State.lawBut.settleExpiry (h : s.lawBut noSlot noSlot) (hreport : s.reportLaw) (n : Slot) :
    (s.settleExpiry n).lawBut noSlot noSlot := by
  unfold State.settleExpiry
  split
  · next hseat =>
    refine (h.elapse _).expire (by exact hreport) ?_
    rw [State.elapse_slot]
    exact hseat
  · exact h

/-- The arbiter's choice leaves a slot SETTLING: it serves slots past SETTLING alone (R45 to R47). -/
theorem react_slot_of_settling {m : Slot} (before : State) (h : (t.slot m).seat = .settling) :
    (react before t).slot m = t.slot m := by
  unfold react State.choose
  split
  · split
    · split
      · next c hc =>
        rw [State.start_slot]
        split
        · next hm =>
          have hserves := State.serves_of_choice hc
          subst hm
          exact absurd (h.symm.trans (of_decide_eq_true hserves)) (by decide)
        · rfl
      · rfl
    · rfl
  · rfl

/-- The settle timers of some slots expire one by one (R6). -/
theorem State.lawBut.foldl_expire (l : List Slot) (hl : l.Nodup) (h : s.lawBut noSlot noSlot) (hreport : s.reportLaw)
    (hseat : ∀ m ∈ l, (s.slot m).seat = .settling) : (l.foldl State.expire s).lawBut noSlot noSlot := by
  induction l generalizing s with
  | nil => exact h
  | cons n l ih =>
    obtain ⟨hn, hl'⟩ := List.nodup_cons.1 hl
    refine ih hl' (h.expire hreport (hseat n List.mem_cons_self)) (State.reportLaw_expire hreport n) fun m hm => ?_
    have hne : n ≠ m := fun he => hn (he ▸ hm)
    have hslot : (s.setSlot n { s.slot n with seat := .identifyWait, timer := none }).slot m = s.slot m :=
      (s.slot_setSlot n m _).trans (if_neg hne)
    have hsettling := hseat m (List.mem_cons_of_mem _ hm)
    unfold State.expire
    rw [react_slot_of_settling _ (by rw [hslot]; exact hsettling), hslot]
    exact hsettling

theorem State.lawBut.microsecond (h : s.lawBut noSlot noSlot) (hreport : s.reportLaw) :
    s.microsecond.lawBut noSlot noSlot := by
  refine (h.elapse 1).foldl_expire _ (List.Nodup.filter _ (by decide)) (by exact hreport) fun m hm => ?_
  obtain ⟨-, hexpiring⟩ := List.mem_filter.1 hm
  rw [State.elapse_slot]
  have hboth : decide ((s.slot m).seat = .settling) = true := (Bool.and_eq_true_iff.1 hexpiring).1
  exact of_decide_eq_true hboth

/-- A step of the part by itself keeps the laws (R4, R25). -/
theorem State.lawBut.idleStep (h : s.lawBut noSlot noSlot) (hreport : s.reportLaw) : s.idle.lawBut noSlot noSlot := by
  unfold State.idle
  split
  · next o ho =>
    split
    · exact h.microsecond hreport
    · exact h.microsecond hreport
    · next a ha => exact h.releaseWord ho ha
    · exact h.finishWord.react s (State.reportLaw_finishWord hreport)
  · exact h.microsecond hreport

/-! ## The resets -/

/-- The release of RSTIN# keeps the laws (R37, R141). -/
theorem State.lawBut.release (h : s.lawBut noSlot noSlot) : s.release.lawBut noSlot noSlot := by
  unfold State.release
  split
  · next hrstin =>
    obtain ⟨hop, hidle, hrun, hempty⟩ := h.quiet (.inl hrstin)
    refine ⟨nofun, fun _ => ⟨hop, hidle, hrun, hempty⟩, fun _ => hop, h.operation, h.identifying, h.armed, h.slots, h.fence,
      h.fields, fun r hr => ?_, h.holding, h.aborting, fun _ ha => ?_⟩
    · exact absurd (hidle.symm.trans hr) (by simp)
    · exact absurd ha.2 (by simp)
  · exact h

/-- The part at the end of STARTING, before its slots settle (R77, R142). -/
def State.started (s : State) : State := { s with starting := false, clear := false, store := [] }

/-- A slot at the end of STARTING enters SETTLING, or is as it was (R2). -/
theorem State.settleAll_record (s : State) (m : Slot) :
    s.settleAll.slot m = (s.slot m).settled s.timing ∨ s.settleAll.slot m = s.slot m := by
  rw [s.settleAll_slots.2 m]
  split
  · exact .inl rfl
  · exact .inr rfl

/-- With STARTING over every slot is EMPTY or SETTLING (R2, R142). -/
theorem State.lawBut.settleAll (h : s.lawBut noSlot noSlot) (hrstin : s.lines.rstin = false) (hstarting : s.starting = true) :
    s.started.settleAll.lawBut noSlot noSlot := by
  obtain ⟨hop, hidle, -, hempty⟩ := h.quiet (.inr hstarting)
  have hnone := (h.idle hidle).2
  have hrecord : ∀ m, s.started.settleAll.slot m = (s.slot m).settled s.timing ∨ s.started.settleAll.slot m = s.slot m :=
    s.started.settleAll_record
  have hident : ∀ m, (s.started.settleAll.slot m).seat ≠ .identifying := fun m => by
    rcases hrecord m with hm | hm <;> rw [hm]
    · nofun
    · simp [(hempty m).1]
  have hslots : ∀ m, (s.started.settleAll.slot m).law := fun m => by
    rcases hrecord m with hm | hm <;> rw [hm]
    · exact (h.slots m).settled (hempty m).1 h.fields.2.1
    · exact h.slots m
  have hfence : ∀ m, (s.started.settleAll.slot m).seat ≠ .empty →
      (s.started.settleAll.slot m).errorCount < s.control.threshold := fun m hm => by
    rcases hrecord m with hr | hr <;> rw [hr] at hm ⊢
    · exact h.fields.1
    · exact absurd (hempty m).1 hm
  have hstate := s.started.settleAll_slots.1
  generalize s.started.settleAll = v at hstate hident hslots hfence
  rw [hstate] at hident hslots hfence ⊢
  refine ⟨fun hr => ?_, fun hq => ?_, fun _ => hop, fun o ho => ?_, fun m _ hm => absurd hm (hident m), fun m hm => ?_, hslots,
    fun m _ _ he => .inl (hfence m he), h.fields, fun r hr => ?_, h.holding, fun m hm => ?_, nofun⟩
  · exact absurd (hrstin.symm.trans hr) Bool.false_ne_true
  · rcases hq with hq | hq
    · exact absurd (hrstin.symm.trans hq) Bool.false_ne_true
    · exact absurd hq Bool.false_ne_true
  · exact absurd (hop.symm.trans ho) (by simp)
  · obtain ⟨x, hx, -⟩ := (State.armed_iff _ m).1 hm
    exact absurd ((hempty m).2.symm.trans hx) (by simp)
  · exact absurd (hidle.symm.trans hr) (by simp)
  · exact absurd ((hnone m).symm.trans hm) Bool.false_ne_true

/-- The end of STARTING keeps the laws (R2, R142). -/
theorem State.lawBut.endStarting (h : s.lawBut noSlot noSlot) (hreport : s.reportLaw) :
    s.endStarting.lawBut noSlot noSlot := by
  rw [State.endStarting_eq]
  split
  · next hstarting =>
    refine (h.settleAll hstarting.2 hstarting.1).choose ?_
    rw [s.started.settleAll_slots.1]
    exact hreport
  · exact h

/-- The end of CLEAR, before the choice it brings (R39, R153). -/
def State.cleared (s : State) : State :=
  match s.cmd.executing with
  | some r => if r.code = Command.busReset.code then { s with clear := false }.complete .ok 0 else { s with clear := false }
  | none => { s with clear := false }

theorem State.endClear_eq (s : State) :
    s.endClear = if s.clear ∧ s.lines.rstin = false then react s s.cleared else s := by
  unfold State.endClear State.cleared
  cases s.cmd.executing <;> rfl

/-- While CLEAR is driven nothing waits but a BUS RESET (R148, R153). -/
theorem State.lawBut.clearing_alone (h : s.lawBut noSlot noSlot) (hclear : s.clear = true) :
    s.arb.hold ≠ .holding ∧ (∀ m : Slot, (s.context m).abortPending = false) ∧
      ∀ r ∈ s.cmd.executing, r.code = Command.busReset.code := by
  by_cases haccess : s.takesAccess
  · have hcode := h.clearing hclear haccess
    refine ⟨fun hh => ?_, fun m => Bool.eq_false_iff.2 fun hm => ?_, fun r hr => ?_⟩
    · exact absurd (hcode.symm.trans (h.holding hh).2) (by decide)
    · exact absurd (hcode.symm.trans (h.aborting m hm).1) (by decide)
    · rw [Option.mem_def.1 hr] at hcode
      exact Option.some.inj hcode
  · have hquiet : s.lines.rstin = true ∨ s.starting = true := by
      by_contra hq
      exact haccess (by simpa using hq)
    obtain ⟨-, hidle, -, -⟩ := h.quiet hquiet
    obtain ⟨hhold, habort⟩ := h.idle hidle
    exact ⟨hhold, habort, fun r hr => absurd (hidle.symm.trans hr) (by simp)⟩

/-- The end of CLEAR keeps the laws (R39, R153). -/
theorem State.lawBut.endClear (h : s.lawBut noSlot noSlot) (hreport : s.reportLaw) : s.endClear.lawBut noSlot noSlot := by
  rw [State.endClear_eq]
  split
  · next hclear =>
    obtain ⟨hhold, habort, hcode⟩ := h.clearing_alone hclear.1
    have hparts : s.cleared.parts = { s.parts with clear := false, executing := none } := by
      unfold State.cleared
      split
      · next r hr =>
        rw [if_pos (hcode r hr)]
        rfl
      · next hr =>
        show { s.parts with clear := false, executing := s.cmd.executing } = _
        rw [hr]
    have hlaw : State.lawBut { s with clear := false, cmd := { s.cmd with executing := none } } noSlot noSlot := by
      refine ⟨fun hr => ?_, fun hq => ?_, fun _ => h.still (.inl hclear.1), h.operation, h.identifying, h.armed, h.slots,
        h.fence, h.fields, nofun, fun hh => absurd hh hhold, fun m hm => ?_, nofun⟩
      · exact absurd (hclear.2.symm.trans hr) Bool.false_ne_true
      · obtain ⟨hop, -, hrun, hempty⟩ := h.quiet hq
        exact ⟨hop, rfl, hrun, hempty⟩
      · exact absurd ((habort m).symm.trans hm) Bool.false_ne_true
    refine (hlaw.of_parts hparts).react s ?_
    unfold State.cleared
    split
    · split <;> exact hreport
    · exact hreport
  · exact h

/-! ## Replies -/

theorem lawBut_execReplyRelease (h : s.lawBut noSlot noSlot) (hreport : s.reportLaw) (ht : exec .replyRelease s = .next t) :
    t.lawBut noSlot noSlot := by
  rw [exec_replyRelease] at ht
  cases ht
  refine (h.finishWord.react s (State.reportLaw_finishWord hreport)).strobed ?_
  by_cases ha : ∃ o a, s.op = some o ∧ o.phase.answer = some a
  · obtain ⟨o, a, ho, ha⟩ := ha
    rw [State.finishWord_of_answer ho ha]
    exact react_endWord_answer s o a
  · have hnone : ∀ o, s.op = some o → o.phase.answer = none := fun o ho =>
      Option.eq_none_iff_forall_ne_some.2 fun a hoa => ha ⟨o, a, ho, hoa⟩
    rw [State.finishWord_of_no_answer hnone, react_self]
    exact hnone

theorem lawBut_execReplyTaken {lines : BitVec 2} {data : Word} {parity : BitVec 2} (h : s.lawBut noSlot noSlot)
    (hreport : s.reportLaw) (ht : exec (.replyTaken lines data parity) s = .next t) : t.lawBut noSlot noSlot := by
  cases ht
  split
  · next o r ho _ =>
    split
    · next hp =>
      have htaken := h.takeReply ho hp ⟨r, data, parityGood data parity⟩
      have hreports := State.reportLaw_takeReply hreport o ⟨r, data, parityGood data parity⟩
      dsimp only
      split
      · exact htaken
      · exact htaken.finishWord.react s (State.reportLaw_finishWord hreports)
    · exact h
  · exact h

theorem lawBut_execResponseWindowExpiry (h : s.lawBut noSlot noSlot) (hreport : s.reportLaw)
    (ht : exec .responseWindowExpiry s = .next t) : t.lawBut noSlot noSlot := by
  cases ht
  split
  · next o ho =>
    have htimeout := (h.timeout ho).react s (State.reportLaw_timeout hreport o)
    split
    · exact h
    · exact h
    · exact htimeout
    · exact htimeout
  · exact h

end

end Sys2Proof.Machine
end

section
/-! SUPPORT. How the host's commands and accesses keep the laws that tie the blocks together. -/

namespace Sys2Proof.Machine

section

variable {s t : State} {n : Slot} {o : Operation}

/-! ## What a command leaves -/

/-- The completion of a command with nothing EXECUTING (R149). -/
theorem State.parts_complete (hidle : s.cmd.executing = none) (r : Result) (d : Word) : (s.complete r d).parts = s.parts := by
  show { s.parts with executing := none } = { s.parts with executing := s.cmd.executing }
  rw [hidle]

theorem State.lawBut.complete (h : s.lawBut noSlot noSlot) (hidle : s.cmd.executing = none) (r : Result) (d : Word) :
    (s.complete r d).lawBut noSlot noSlot := h.of_parts (State.parts_complete hidle r d)

/-- An operation whose context is not ARMED does not look at it any more (R97). -/
theorem State.operationLaw_of_spent (h : s.operationLaw o)
    (hspent : ∀ x, (s.context o.slot).transfer = some x → x.phase ≠ .armed) (hslot : t.slot o.slot = s.slot o.slot) :
    t.operationLaw o := by
  by_cases hburst : ∃ b, o.kind = .burst b
  · obtain ⟨kind, slot, index, window, phase⟩ := o
    obtain ⟨b, rfl⟩ := hburst
    obtain ⟨hwindow, hseat, hsize, hinput, hreleased, hboundary, hmoved, hshort, hopen, hctx⟩ := h
    have hdone : ¬b.moved < b.size := fun hlt => by
      obtain ⟨x, hx⟩ := Option.isSome_iff_exists.1 (hopen hlt)
      exact hspent x hx (hctx x hx hlt).1
    exact ⟨hwindow, (congrArg SlotRecord.seat hslot).trans hseat, hsize, hinput, hreleased, hboundary, hmoved, hshort,
      fun hlt => absurd hlt hdone, fun _ _ hlt => absurd hlt hdone⟩
  · exact State.operationLaw_of_noBurst h (fun b hb => hburst ⟨b, hb⟩) (congrArg SlotRecord.seat hslot)
      (congrArg (fun r => r.ident.isSome) hslot)

/-- A context that is not ARMED gives way to another, no command waiting (R94, R96, R111). -/
theorem State.lawBut.put_context {c : Context} (h : s.lawBut noSlot noSlot) (haccess : s.takesAccess)
    (hidle : s.cmd.executing = none) (hspent : ∀ x, (s.context n).transfer = some x → x.phase ≠ .armed)
    (harmed : ∀ x, c.transfer = some x → x.phase = .armed → (s.slot n).seat = .online ∧ (s.slot n).transferCapable = true)
    (hpending : c.abortPending = false) : (s.setContext n c).lawBut noSlot noSlot := by
  have hnone := (h.idle hidle).2 n
  refine State.lawBut.of_parts (h.put haccess (h.slots n) (fun hi => .inr (h.identifying n id hi)) harmed
    (fun hu => h.fence n hu) (fun _ _ => id) (fun o ho hn => ?_) (hpending.trans hnone.symm)
    fun hp => absurd (hpending.symm.trans hp) Bool.false_ne_true) (s.parts_setContext n c)
  subst hn
  refine State.operationLaw_of_spent (h.operation o ho).2 hspent ?_
  rw [State.put_slot, if_pos rfl]

/-- A slot that is to be identified again, from FAILED or FENCED (R18, R125). -/
theorem State.lawBut.retry {r : SlotRecord} (h : s.lawBut noSlot noSlot) (haccess : s.takesAccess)
    (hseat : (s.slot n).seat = .failed ∨ (s.slot n).seat = .fenced) (hr : r = { s.slot n with seat := .identifyWait, errorCount := 0 }) :
    (s.setSlot n r).lawBut noSlot noSlot := by
  subst hr
  obtain ⟨h1, h2, -, h4, -, -⟩ := h.slots n
  refine h.put_unserved haccess ?_ ⟨?_, h2, by simp, h4, by simp, fun _ => rfl⟩ nofun (fun _ => rfl) fun o ho hn => ?_
  · rcases hseat with hs | hs <;> simp [hs]
  · rcases hseat with hs | hs <;> simpa [hs] using h1
  · rcases hseat with hs | hs
    · exact absurd hn (h.no_operation (.inr (.inr hs)) o ho)
    · have hlaw := (h.operation o ho).2
      subst hn
      have hslot := s.slot_setSlot o.slot o.slot { s.slot o.slot with seat := .identifyWait, errorCount := 0 }
      rw [if_pos rfl] at hslot
      obtain ⟨kind, slot, index, window, phase⟩ := o
      cases kind with
      | identify w => exact absurd (hs.symm.trans hlaw.2.1) (by decide)
      | acknowledge =>
        obtain ⟨hwindow, -, hident, hindex⟩ := hlaw
        exact ⟨hwindow, .inr (.inr (congrArg SlotRecord.seat hslot)),
          (congrArg (fun r => r.ident.isSome) hslot).trans hident, hindex⟩
      | burst b => exact absurd (hs.symm.trans hlaw.2.1) (by decide)

/-! ## The commands -/

section

variable (h : s.lawBut noSlot noSlot) (haccess : s.takesAccess) (hidle : s.cmd.executing = none)
include h hidle

theorem State.lawBut.runSetOrder : s.runSetOrder.lawBut noSlot noSlot := by
  simp only [State.runSetOrder]
  split
  · exact State.lawBut.complete (s := { s with arb := { s.arb with order := operandOrder s.cmd.opa s.cmd.opb } })
      (h.of_parts rfl) hidle _ _
  · exact h.complete hidle _ _

theorem State.lawBut.runNextEvent : s.runNextEvent.lawBut noSlot noSlot := by
  unfold State.runNextEvent
  split
  · exact h.complete hidle _ _
  · next rest _ =>
    split
    · exact State.lawBut.complete (s := { s with events := rest }) (h.of_parts rfl) hidle _ _
    · exact h.complete hidle _ _

theorem State.lawBut.runTakeAttention (hreport : s.reportLaw) : s.runTakeAttention.lawBut noSlot noSlot := by
  simp only [State.runTakeAttention]
  split
  · exact h.complete hidle _ _
  · split
    · exact State.lawBut.react s (h.of_parts (State.parts_complete (by exact hidle) _ _)) (by exact hreport)
    · exact h.complete hidle _ _

theorem State.lawBut.runRetire (hreport : s.reportLaw) : s.runRetire.lawBut noSlot noSlot := by
  simp only [State.runRetire]
  split
  · exact State.lawBut.react s (h.of_parts (State.parts_complete (by exact hidle) _ _)) (by exact hreport)
  · exact h.complete hidle _ _

include haccess

/-- A programmed mode ties no blocks together (R17). -/
theorem State.lawBut.runSetMode (hreport : s.reportLaw) : s.runSetMode.lawBut noSlot noSlot := by
  simp only [State.runSetMode]
  generalize operandSlot s.cmd.opa = n
  split
  · next m _ =>
    obtain ⟨-, -, -, -, -, hzero⟩ := h.slots n
    have hset : (s.setSlot n { s.slot n with mode := m }).lawBut noSlot noSlot :=
      h.put_record haccess rfl rfl rfl hzero (h.fence n) fun _ _ => id
    exact (hset.complete hidle .ok 0).react s (by exact hreport)
  · exact h.complete hidle _ _

theorem State.lawBut.runReidentify (hreport : s.reportLaw) : s.runReidentify.lawBut noSlot noSlot := by
  simp only [State.runReidentify]
  generalize operandSlot s.cmd.opa = n
  split
  · next hseat =>
    obtain ⟨-, -, -, -, -, hcount⟩ := h.slots n
    have hzero : (s.slot n).errorCount = 0 := hcount (.inr (.inr (.inr hseat)))
    have hset : (s.setSlot n { s.slot n with seat := .identifyWait }).lawBut noSlot noSlot :=
      h.retry haccess (.inl hseat) (by rw [← hzero])
    exact (hset.complete hidle .ok 0).react s (by exact hreport)
  · exact h.complete hidle _ _

theorem State.lawBut.runUnfence (hreport : s.reportLaw) : s.runUnfence.lawBut noSlot noSlot := by
  simp only [State.runUnfence]
  generalize operandSlot s.cmd.opa = n
  split
  · next hseat => exact ((h.retry haccess (.inr hseat) rfl).complete hidle .ok 0).react s (by exact hreport)
  · exact h.complete hidle _ _

/-- HOLD waits for the operation in flight, or finds none (R55). -/
theorem State.lawBut.runHold (hcode : s.cmd.code = Command.hold.code) : s.runHold.lawBut noSlot noSlot := by
  obtain ⟨-, hnone⟩ := h.idle hidle
  have hnot : ¬(s.lines.rstin = true ∨ s.starting = true) := by simpa using haccess
  have hcalm : ∀ m : Slot, (s.context m).abortPending ≠ true := fun m hm => by simp [hnone m] at hm
  have hbus : ¬s.clear = true := fun hc => by simpa [hidle] using h.clearing hc haccess
  unfold State.runHold
  split
  · split
    · next hop =>
      exact ⟨h.reset, fun hq => absurd hq hnot, fun _ => hop, h.operation, h.identifying, h.armed, h.slots, h.fence, h.fields,
        nofun, nofun, fun m hm => absurd hm (hcalm m), fun hc => absurd hc hbus⟩
    · next o ho =>
      refine ⟨h.reset, fun hq => absurd hq hnot, fun hs => hs.elim (fun hc => absurd hc hbus) nofun, h.operation, h.identifying,
        h.armed, h.slots, h.fence, h.fields, ?_, fun _ => ⟨.inl ?_, congrArg some hcode⟩, fun m hm => absurd hm (hcalm m),
        fun hc => absurd hc hbus⟩
      · rintro r ⟨⟩
        exact .inl ⟨hcode, rfl⟩
      · exact congrArg Option.isSome ho
  · exact h.complete hidle _ _
  · exact h.complete hidle _ _

theorem State.lawBut.runResume (hreport : s.reportLaw) : s.runResume.lawBut noSlot noSlot := by
  obtain ⟨-, hnone⟩ := h.idle hidle
  have hnot : ¬(s.lines.rstin = true ∨ s.starting = true) := by simpa using haccess
  unfold State.runResume
  split
  · refine State.lawBut.choose ?_ (by exact hreport)
    refine ⟨h.reset, fun hq => absurd hq hnot, fun hs => h.still (hs.imp id nofun), h.operation, h.identifying, h.armed,
      h.slots, h.fence, h.fields, nofun, nofun, fun m hm => ?_, fun hc => ?_⟩
    · exact absurd ((hnone m).symm.trans hm) Bool.false_ne_true
    · exact absurd (h.clearing hc haccess) (by simp [hidle])
  · exact h.complete hidle _ _
  · exact h.complete hidle _ _

theorem State.lawBut.runOpen : s.runOpen.lawBut noSlot noSlot := by
  simp only [State.runOpen]
  generalize operandSlot s.cmd.opa = n
  split
  · exact h.complete hidle _ _
  · next hclosed =>
    split
    · exact h.complete hidle _ _
    · split
      · exact h.complete hidle _ _
      · split
        · exact h.complete hidle _ _
        · refine State.lawBut.complete ?_ (by exact hidle) _ _
          refine State.lawBut.put_context (h.of_parts rfl) haccess hidle (fun x hx => ?_) (fun x hx hp => ?_) rfl
          · exact absurd (hclosed.symm.trans hx) (by simp)
          · cases hx
            cases hp

theorem State.lawBut.runArm (hreport : s.reportLaw) : s.runArm.lawBut noSlot noSlot := by
  have hafter := State.reportLaw_runArm hreport
  simp only [State.runArm] at hafter ⊢
  generalize operandSlot s.cmd.opa = n at hafter ⊢
  split at hafter
  · next x hx =>
    split at hafter
    · next hloading =>
      split at hafter
      · next hready =>
        rw [if_pos hloading, if_pos hready]
        have hset : (s.setTransfer n { x with phase := .armed }).lawBut noSlot noSlot :=
          h.put_context haccess hidle (fun y hy => by
            obtain rfl := Option.some.inj (hx.symm.trans hy)
            simp [hloading]) (fun _ _ _ => hready) ((h.idle hidle).2 n)
        exact (hset.complete hidle .ok 0).react s (reportLaw_of_react hafter)
      · next hready =>
        rw [if_pos hloading, if_neg hready]
        exact h.complete hidle _ _
    · next hloading =>
      rw [if_neg hloading]
      exact h.complete hidle _ _
  · exact h.complete hidle _ _

theorem State.lawBut.runClose : s.runClose.lawBut noSlot noSlot := by
  simp only [State.runClose]
  generalize operandSlot s.cmd.opa = n
  split
  · next x hx =>
    have hcloses : x.phase ≠ .armed → ((s.closeContext n x).complete .ok 0).lawBut noSlot noSlot := fun hphase => by
      refine State.lawBut.complete ?_ (by exact hidle) _ _
      refine State.lawBut.put_context (h.of_parts rfl) haccess hidle (fun y hy => ?_) nofun ((h.idle hidle).2 n)
      obtain rfl := Option.some.inj (hx.symm.trans hy)
      exact hphase
    split
    · exact h.complete hidle _ _
    · next hp => exact hcloses (by simp [hp])
    · next hp =>
      split
      · exact h.complete hidle _ _
      · exact hcloses (by simp [hp])
    · next hp =>
      split
      · exact h.complete hidle _ _
      · exact hcloses (by simp [hp])
  · exact h.complete hidle _ _

/-- ABORT waits for a burst of its slot, and otherwise halts the context (R106, R107). -/
theorem State.lawBut.runAbort (hreport : s.reportLaw) (hcode : s.cmd.code = Command.abort.code) :
    s.runAbort.lawBut noSlot noSlot := by
  by_cases harmed : ∃ x, (s.context s.named).transfer = some x ∧ x.phase = .armed
  · obtain ⟨x, hx, harmed⟩ := harmed
    have hafter := State.reportLaw_runAbort hreport
    cases hburst : s.burstInFlight s.named with
    | true =>
      obtain ⟨o, b, ho, hk, hslot⟩ := (s.burstInFlight_iff s.named).1 hburst
      rw [State.runAbort_of_burst hx harmed hburst] at hafter ⊢
      exact (h.abortBurst hidle hcode hx harmed ho hk hslot).react s (reportLaw_of_react hafter)
    | false =>
      rw [State.runAbort_of_no_burst hx harmed hburst] at hafter ⊢
      have hno : s.noBurst s.named := fun o b ho hk hslot => by
        simp [State.burstInFlight_of_burst ho hk hslot] at hburst
      have hhalt := h.halt haccess hno .aborted
      have hidle' : (s.halt s.named .aborted).cmd.executing = none := by
        rw [State.halt_eq]
        exact hidle
      exact (hhalt.complete hidle' .ok _).react s (reportLaw_of_react hafter)
  · rw [State.runAbort_of_not_armed fun x hx hp => harmed ⟨x, hx, hp⟩]
    exact h.complete hidle _ _

end

/-! ## BUS RESET -/

theorem SlotRecord.law.busReset {r : SlotRecord} (h : r.law) : r.busReset.law := by
  obtain ⟨h1, h2, h3, h4, h5, h6⟩ := h
  rw [SlotRecord.busReset_eq]
  split
  · next hpast =>
    have hnot : r.seat ≠ .settling := fun hs => by simp [hs, SeatState.pastSettling] at hpast
    exact ⟨by simpa [hnot] using h1, h2, by simp, h4, by simp, fun _ => rfl⟩
  · exact ⟨h1, h2, h3, h4, h5, h6⟩

/-- At BUS RESET every slot is EMPTY, SETTLING or an identify candidate (R19). -/
theorem SlotRecord.busReset_seat (r : SlotRecord) :
    r.busReset.seat = .identifyWait ∨ r.busReset.seat = .empty ∨ r.busReset.seat = .settling := by
  rw [SlotRecord.busReset_eq]
  cases hs : r.seat <;> simp [SeatState.pastSettling, hs]

/-- At BUS RESET every slot that is not EMPTY has count 0 (R19). -/
theorem SlotRecord.law.busReset_count {r : SlotRecord} (h : r.law) (hempty : r.busReset.seat ≠ .empty) :
    r.busReset.errorCount = 0 := by
  obtain ⟨-, -, -, -, -, hzero⟩ := h.busReset
  rcases r.busReset_seat with hs | hs | hs
  · exact hzero (.inr (.inl hs))
  · exact absurd hs hempty
  · exact hzero (.inl hs)

/-- The part that a BUS RESET leaves waiting for the end of CLEAR, of one in which nothing waits (R152, R153). -/
theorem State.lawBut.busReset {q : CommandRecord} (h : s.lawBut noSlot noSlot) (haccess : s.takesAccess)
    (hidle : s.cmd.executing = none) (hslot : ∀ m, t.slot m = (s.slot m).busReset)
    (hcontext : ∀ m, t.context m = (s.context m).halted .busReset) (hq : q.code = Command.busReset.code)
    (hparts : t.parts = { s.parts with
      op := none, clear := true, slots := t.slots, contexts := t.contexts, executing := some q }) :
    t.lawBut noSlot noSlot := by
  obtain ⟨hhold, habort⟩ := h.idle hidle
  have hop : t.op = none := congrArg Parts.op hparts
  have hexecuting : t.cmd.executing = some q := congrArg Parts.executing hparts
  have hthreshold : t.control.threshold = s.control.threshold := congrArg Parts.threshold hparts
  have htiming : t.timing = s.timing := congrArg Parts.timing hparts
  have hhold' : t.arb.hold = s.arb.hold := congrArg Parts.hold hparts
  have haccess' : ¬(t.lines.rstin = true ∨ t.starting = true) := by
    have hrstin : t.lines.rstin = s.lines.rstin := congrArg Parts.rstin hparts
    have hstarting : t.starting = s.starting := congrArg Parts.starting hparts
    rw [hrstin, hstarting]
    simpa using haccess
  refine ⟨fun hr => absurd (.inl hr) haccess', fun hr => absurd hr haccess', fun _ => hop, fun o ho => ?_, fun m _ hm => ?_,
    fun m hm => ?_, fun m => ?_, fun m _ _ he => .inl ?_, ?_, fun r hr => ?_, fun hh => absurd (hhold'.symm.trans hh) hhold,
    fun m hm => ?_, fun _ _ => ?_⟩
  · exact absurd (hop.symm.trans ho) (by simp)
  · rw [hslot] at hm
    rcases (s.slot m).busReset_seat with hs | hs | hs <;> exact absurd (hs.symm.trans hm) (by decide)
  · obtain ⟨x, hx, hp⟩ := (State.armed_iff t m).1 hm
    rw [hcontext] at hx
    exact absurd hp (Context.halted_not_armed hx)
  · rw [hslot]
    exact (h.slots m).busReset
  · rw [hslot] at he ⊢
    rw [(h.slots m).busReset_count he, hthreshold]
    exact h.fields.1
  · rw [hthreshold, htiming]
    exact h.fields
  · obtain rfl := Option.some.inj (hexecuting.symm.trans hr)
    exact .inr (.inl ⟨hq, congrArg Parts.clear hparts⟩)
  · rw [hcontext] at hm
    exact absurd ((habort m).symm.trans hm) Bool.false_ne_true
  · rw [hexecuting]
    exact congrArg some hq

/-- BUS RESET leaves nothing in flight, and waits for the end of CLEAR (R152, R153). -/
theorem State.lawBut.exec_busReset (h : s.lawBut noSlot noSlot) (htakes : s.takesCommand)
    (ht : exec .busReset s = .next t) : t.lawBut noSlot noSlot := by
  obtain ⟨hrstin, hstarting, hidle⟩ := htakes
  have hcalm : s.calm := h.idle hidle
  obtain ⟨-, u, hu, heq, -, hslot, hcontext⟩ :=
    busResetTakesEveryBlock s ⟨hrstin, hstarting, hidle⟩ hcalm.1 hcalm.2
  obtain rfl : u = t := by simpa using hu.symm.trans ht
  have hcmd : s.finishWord.cmd = s.cmd := State.finishWord_outside.cmd_eq hcalm
  exact h.finishWord.busReset (s.keeps_finishWord.takesAccess ⟨hrstin, hstarting⟩) (by rw [hcmd]; exact hidle)
    (fun m => by rw [hslot m, SlotRecord.busReset_eq]) hcontext rfl (congrArg State.parts heq)

end

end Sys2Proof.Machine
end

section
/-! SUPPORT. Every command and every step keeps the laws that tie the blocks together. -/

namespace Sys2Proof.Machine

section

variable {s t : State}

/-- A command taken keeps the laws (R148). -/
theorem State.lawBut.runCommand (h : s.lawBut noSlot noSlot) (hreport : s.reportLaw) (haccess : s.takesAccess)
    (hidle : s.cmd.executing = none) {c : Command} (hcode : s.cmd.code = c.code) (hc : c ≠ .busReset) :
    (s.runCommand c).lawBut noSlot noSlot := by
  cases c with
  | setMode => exact h.runSetMode haccess hidle hreport
  | setOrder => exact h.runSetOrder hidle
  | hold => exact h.runHold haccess hidle hcode
  | resume => exact h.runResume haccess hidle hreport
  | reidentify => exact h.runReidentify haccess hidle hreport
  | unfence => exact h.runUnfence haccess hidle hreport
  | takeAttention => exact h.runTakeAttention hidle hreport
  | retire => exact h.runRetire hidle hreport
  | openContext => exact h.runOpen haccess hidle
  | arm => exact h.runArm haccess hidle hreport
  | abort => exact h.runAbort haccess hidle hreport hcode
  | close => exact h.runClose haccess hidle
  | nextEvent => exact h.runNextEvent hidle
  | busReset => exact absurd rfl hc

/-- A write of COMMAND keeps the laws (R141, R148, R150). -/
theorem State.lawBut.writeCommand (h : s.lawBut noSlot noSlot) (hreport : s.reportLaw) (w : Word) :
    (s.writeCommand w).lawBut noSlot noSlot := by
  by_cases htakes : s.takesCommand
  · have htaken : (s.takeWord w).lawBut noSlot noSlot := h.of_parts rfl
    obtain ⟨hrstin, hstarting, hidle⟩ := htakes
    rcases hc : commandOf w with _ | c
    · have hwrite : s.writeCommand w = (s.takeWord w).complete .badOperand 0 := by
        rw [State.writeCommand, if_neg (by simp [hrstin]), if_neg (by simp [hstarting, hidle]), hc]
      rw [hwrite]
      exact htaken.complete hidle _ _
    · obtain rfl := (commandOf_eq_some_iff w c).1 hc
      by_cases hbus : c = .busReset
      · subst hbus
        exact h.exec_busReset ⟨hrstin, hstarting, hidle⟩ rfl
      · rw [State.writeCommand_code ⟨hrstin, hstarting, hidle⟩]
        exact htaken.runCommand (by exact hreport) ⟨hrstin, hstarting⟩ hidle rfl hbus
  · unfold State.writeCommand
    split
    · exact h
    · next hrstin =>
      split
      · exact h.of_parts rfl
      · next hbusy =>
        refine absurd ⟨by simpa using hrstin, ?_⟩ htakes
        simpa using hbusy

/-- A write of TIMING keeps the laws (R145). -/
theorem State.lawBut.writeTiming (h : s.lawBut noSlot noSlot) (w : Word) : (s.writeTiming w).lawBut noSlot noSlot := by
  obtain ⟨⟨hsettle, -⟩, hwindow⟩ := timingOfWord_range w
  unfold State.writeTiming
  split
  · exact ⟨h.reset, h.quiet, h.still, h.operation, h.identifying, h.armed, h.slots, h.fence, ⟨h.fields.1, hsettle, hwindow⟩,
      h.executing, h.holding, h.aborting, h.clearing⟩
  · exact h

theorem State.lawBut.writeStatus (h : s.lawBut noSlot noSlot) (w : Word) : (s.writeStatus w).lawBut noSlot noSlot := by
  unfold State.writeStatus
  split
  · exact h.of_parts rfl
  · exact h

theorem State.lawBut.writePointer (h : s.lawBut noSlot noSlot) (w : Word) : (s.writePointer w).lawBut noSlot noSlot := by
  unfold State.writePointer
  split
  · exact h.of_parts rfl
  · exact h

theorem State.lawBut.writeSlotSelect (h : s.lawBut noSlot noSlot) (w : Word) :
    (s.writeSlotSelect w).lawBut noSlot noSlot := by
  unfold State.writeSlotSelect
  split
  · exact h.of_parts rfl
  · exact h

theorem State.lawBut.writeOpa (h : s.lawBut noSlot noSlot) (w : Word) : (s.writeOpa w).lawBut noSlot noSlot := by
  unfold State.writeOpa
  split
  · exact h.of_parts rfl
  · exact h

theorem State.lawBut.writeOpb (h : s.lawBut noSlot noSlot) (w : Word) : (s.writeOpb w).lawBut noSlot noSlot := by
  unfold State.writeOpb
  split
  · exact h.of_parts rfl
  · exact h

theorem State.lawBut.writeStoreData (h : s.lawBut noSlot noSlot) (w : Word) :
    (s.writeStoreData w).lawBut noSlot noSlot := by
  unfold State.writeStoreData
  split
  · split
    · exact h.of_parts rfl
    · exact h.of_parts rfl
  · exact h

theorem State.lawBut.readStoreData (h : s.lawBut noSlot noSlot) : s.readStoreData.lawBut noSlot noSlot := by
  unfold State.readStoreData
  split
  · split
    · exact h.of_parts rfl
    · exact h.of_parts rfl
  · exact h.of_parts rfl

theorem State.lawBut.hostWrite (h : s.lawBut noSlot noSlot) (hreport : s.reportLaw) (address : BitVec 5) (w : Word) :
    (s.hostWrite address w).lawBut noSlot noSlot := by
  unfold State.hostWrite
  split
  · exact h.writeStatus w
  · exact h.writeControl hreport w
  · exact h.writeTiming w
  · exact h.writeCommand hreport w
  · exact h.writeOpa w
  · exact h.writeOpb w
  · exact h.writePointer w
  · exact h.writeStoreData w
  · exact h.writeSlotSelect w
  · exact h

theorem exec_keepsLawBut (h : s.lawBut noSlot noSlot) (hreport : s.reportLaw) {i : Instr} (ht : exec i s = .next t) :
    t.lawBut noSlot noSlot := by
  cases i with
  | pinReset => cases ht; exact (State.partLaw_iff _).1 s.partLaw_pinReset
  | rstinRelease => cases ht; exact h.release
  | startingEnd => cases ht; exact h.endStarting hreport
  | seatActive n => cases ht; exact h.seatActive n
  | seatInactiveSettling n => cases ht; exact h.seatInactive hreport n
  | removal n => cases ht; exact h.seatInactive hreport n
  | settleTimerExpiry n => cases ht; exact h.settleExpiry hreport n
  | areqActive n active => cases ht; exact State.lawBut.react s (h.of_parts rfl) (by exact hreport)
  | treqActive n active => cases ht; exact State.lawBut.react s (h.of_parts rfl) (by exact hreport)
  | replyRelease => exact lawBut_execReplyRelease h hreport ht
  | replyTaken lines data parity => exact lawBut_execReplyTaken h hreport ht
  | responseWindowExpiry => exact lawBut_execResponseWindowExpiry h hreport ht
  | clearEnd => cases ht; exact h.endClear hreport
  | controlWrite w => cases ht; exact h.writeControl hreport w
  | timingWrite w => cases ht; exact h.writeTiming w
  | statusWrite w => cases ht; exact h.writeStatus w
  | storePointerWrite w => cases ht; exact h.writePointer w
  | storeDataRead => cases ht; exact h.readStoreData
  | storeDataWrite w => cases ht; exact h.writeStoreData w
  | slotSelectWrite w => cases ht; exact h.writeSlotSelect w
  | registerWrite address w => cases ht; exact h.hostWrite hreport address w
  | _ => cases ht; exact h.writeCommand hreport _

end

/-- Settles O11, through the laws with one slot left open: an operation's end opens its slot, and the same step settles what
waited for it or starts the next operation. -/
theorem stepKeepsThePartTogether : Obligations.StepKeepsThePartTogether := by
  intro s t h hreport hstep
  have hlaw := (State.partLaw_iff s).1 h
  refine (State.partLaw_iff t).2 ?_
  unfold step at hstep
  split at hstep
  · next i rest _ => exact exec_keepsLawBut (s := { s with pending := rest }) (hlaw.of_parts rfl) hreport hstep
  · cases hstep
    exact hlaw.idleStep hreport

end Sys2Proof.Machine
end
